-- ==== Sys2Proof/Word.lean ====
section
/-! DEFINITION. The word types of the core: bytes, 16-bit words, and a bit as a number (spec 00 R12, R13). -/

namespace Sys2Proof

/-- A register, an I/O byte or a byte of memory (00 R11: register width 8 bits). -/
abbrev Byte := BitVec 8

/-- An instruction word, a register pair, a pointer or the stack pointer (00 R11). -/
abbrev Word16 := BitVec 16

end Sys2Proof
end

