-- ==== Sys2Proof/Syntax.lean ====
section
/-! DEFINITION. Syntax: the operand classes, the 91 decoded mnemonics and the instructions, one constructor per row of
spec/opcode_table.json (30 R150): the 91 decoded instructions and the 45 assembler aliases. A field holds the raw bits of
its format at their width, so an operand outside its class cannot be written (30 R111, 60 R506). -/

namespace Sys2Proof

/-- Operand class GPR: r0..r31 (10 R38). -/
abbrev GPR := BitVec 5
/-- Operand class HGPR: field f names r(16+f), r16..r31 (10 R38). -/
abbrev HGPR := BitVec 4
/-- Operand class MGPR: field f names r(16+f), r16..r23 (10 R38). -/
abbrev MGPR := BitVec 3
/-- Operand class EGPR: field f names the pair whose low register is r(2f) (10 R38). -/
abbrev EGPR := BitVec 4
/-- Operand class RDL: field f names the pair whose low register is r(24+2f) (10 R38). -/
abbrev RDL := BitVec 2
/-- A bit number in a byte or in SREG, 0..7 (30 R111). -/
abbrev IMM3 := BitVec 3
/-- An I/O index 0..31 of SBI, CBI, SBIC, SBIS (30 R111). -/
abbrev IMM5 := BitVec 5
/-- An I/O index 0..63, a word constant or a displacement (30 R111). -/
abbrev IMM6 := BitVec 6
/-- An 8-bit constant, zero-extended (30 R111). -/
abbrev IMM8 := BitVec 8
/-- An absolute data address (30 R112). -/
abbrev DADDR := BitVec 16
/-- An absolute program word address, 22 bits (30 R112, R136). -/
abbrev PADDR := BitVec 22
/-- A branch displacement in words, the raw field, read as signed -64..63 (30 R112). -/
abbrev SREL := BitVec 7
/-- A jump displacement in words, the raw field, read as signed -2048..2047 (30 R112). -/
abbrev LREL := BitVec 12

/-- The 91 decoded mnemonics (30 R140, R150), under the ids of the opcode table. -/
inductive Mnemonic where
  | add | adc | adiw | sub | subi | sbc | sbci | sbiw | and | andi | or | ori | eor | com | neg | inc | dec
  | cp | cpc | cpi | mul | muls | mulsu | fmul | fmuls | fmulsu | lsr | asr | ror | swap | bset | bclr | bst
  | bld | sbi | cbi | mov | movw | ldi | ldX | ldXp | ldMx | ldYp | ldMy | ldZp | ldMz | lddY | lddZ | lds
  | stX | stXp | stMx | stYp | stMy | stZp | stMz | stdY | stdZ | sts | lpm | lpmZ | lpmZp | elpm | elpmZ
  | elpmZp | spm | in_ | out | push | pop | rjmp | ijmp | eijmp | jmp | rcall | icall | eicall | call | ret
  | reti | brbs | brbc | cpse | sbrc | sbrs | sbic | sbis | nop | sleep | wdr | break_
  deriving DecidableEq, Repr

/-- The instructions: one constructor per row of spec/opcode_table.json (30 R150). -/
inductive Instr where
  -- Arithmetic and logic (spec 40)
  /-- `ADD Rd, Rr` (R210) -/
  | add (d r : GPR)
  /-- `ADC Rd, Rr` (R211) -/
  | adc (d r : GPR)
  /-- `ADIW Rd+1:Rd, K` (R212) -/
  | adiw (d : RDL) (k : IMM6)
  /-- `SUB Rd, Rr` (R213) -/
  | sub (d r : GPR)
  /-- `SUBI Rd, K` (R214) -/
  | subi (d : HGPR) (k : IMM8)
  /-- `SBC Rd, Rr` (R215) -/
  | sbc (d r : GPR)
  /-- `SBCI Rd, K` (R216) -/
  | sbci (d : HGPR) (k : IMM8)
  /-- `SBIW Rd+1:Rd, K` (R217) -/
  | sbiw (d : RDL) (k : IMM6)
  /-- `AND Rd, Rr` (R218) -/
  | and (d r : GPR)
  /-- `ANDI Rd, K` (R219) -/
  | andi (d : HGPR) (k : IMM8)
  /-- `OR Rd, Rr` (R220) -/
  | or (d r : GPR)
  /-- `ORI Rd, K` (R221) -/
  | ori (d : HGPR) (k : IMM8)
  /-- `EOR Rd, Rr` (R222) -/
  | eor (d r : GPR)
  /-- `COM Rd` (R223) -/
  | com (d : GPR)
  /-- `NEG Rd` (R224) -/
  | neg (d : GPR)
  /-- `INC Rd` (R225) -/
  | inc (d : GPR)
  /-- `DEC Rd` (R226) -/
  | dec (d : GPR)
  /-- `CP Rd, Rr` (R227) -/
  | cp (d r : GPR)
  /-- `CPC Rd, Rr` (R228) -/
  | cpc (d r : GPR)
  /-- `CPI Rd, K` (R229) -/
  | cpi (d : HGPR) (k : IMM8)
  /-- `MUL Rd, Rr` (R230) -/
  | mul (d r : GPR)
  /-- `MULS Rd, Rr` (R231) -/
  | muls (d r : HGPR)
  /-- `MULSU Rd, Rr` (R232) -/
  | mulsu (d r : MGPR)
  /-- `FMUL Rd, Rr` (R233) -/
  | fmul (d r : MGPR)
  /-- `FMULS Rd, Rr` (R234) -/
  | fmuls (d r : MGPR)
  /-- `FMULSU Rd, Rr` (R235) -/
  | fmulsu (d r : MGPR)
  /-- `TST Rd`, alias of `and Rd, Rd` (R236) -/
  | tst (d : GPR)
  /-- `CLR Rd`, alias of `eor Rd, Rd` (R237) -/
  | clr (d : GPR)
  /-- `SER Rd`, alias of `ldi Rd, 0xFF` (R238) -/
  | ser (d : HGPR)
  /-- `SBR Rd, K`, alias of `ori Rd, K` (R239) -/
  | sbr (d : HGPR) (k : IMM8)
  /-- `CBR Rd, K`, alias of `andi Rd, (0xFF - K)` (R240) -/
  | cbr (d : HGPR) (k : IMM8)
  /-- `LSL Rd`, alias of `add Rd, Rd` (R241) -/
  | lsl (d : GPR)
  /-- `ROL Rd`, alias of `adc Rd, Rd` (R242) -/
  | rol (d : GPR)
  -- Shift, bit and flag (spec 41)
  /-- `LSR Rd` (R262) -/
  | lsr (d : GPR)
  /-- `ASR Rd` (R263) -/
  | asr (d : GPR)
  /-- `ROR Rd` (R264) -/
  | ror (d : GPR)
  /-- `SWAP Rd` (R265) -/
  | swap (d : GPR)
  /-- `BSET s` (R266) -/
  | bset (b : IMM3)
  /-- `BCLR s` (R267) -/
  | bclr (b : IMM3)
  /-- `BST Rd, b` (R268) -/
  | bst (d : GPR) (b : IMM3)
  /-- `BLD Rd, b` (R269) -/
  | bld (d : GPR) (b : IMM3)
  /-- `SBI A, b` (R270) -/
  | sbi (a : IMM5) (b : IMM3)
  /-- `CBI A, b` (R271) -/
  | cbi (a : IMM5) (b : IMM3)
  /-- `SEC`, alias of `bset 0` (R272) -/
  | sec
  /-- `SEZ`, alias of `bset 1` (R273) -/
  | sez
  /-- `SEN`, alias of `bset 2` (R274) -/
  | sen
  /-- `SEV`, alias of `bset 3` (R275) -/
  | sev
  /-- `SES`, alias of `bset 4` (R276) -/
  | ses
  /-- `SEH`, alias of `bset 5` (R277) -/
  | seh
  /-- `SET`, alias of `bset 6` (R278) -/
  | set_
  /-- `SEI`, alias of `bset 7` (R279) -/
  | sei
  /-- `CLC`, alias of `bclr 0` (R280) -/
  | clc
  /-- `CLZ`, alias of `bclr 1` (R281) -/
  | clz
  /-- `CLN`, alias of `bclr 2` (R282) -/
  | cln
  /-- `CLV`, alias of `bclr 3` (R283) -/
  | clv
  /-- `CLS`, alias of `bclr 4` (R284) -/
  | cls
  /-- `CLH`, alias of `bclr 5` (R285) -/
  | clh
  /-- `CLT`, alias of `bclr 6` (R286) -/
  | clt
  /-- `CLI`, alias of `bclr 7` (R287) -/
  | cli
  -- Data transfer (spec 42)
  /-- `MOV Rd, Rr` (R312) -/
  | mov (d r : GPR)
  /-- `MOVW Rd+1:Rd, Rr+1:Rr` (R313) -/
  | movw (d r : EGPR)
  /-- `LDI Rd, K` (R314) -/
  | ldi (d : HGPR) (k : IMM8)
  /-- `LD Rd, X` (R315) -/
  | ldX (d : GPR)
  /-- `LD Rd, X+` (R316) -/
  | ldXp (d : GPR)
  /-- `LD Rd, -X` (R317) -/
  | ldMx (d : GPR)
  /-- `LD Rd, Y+` (R318) -/
  | ldYp (d : GPR)
  /-- `LD Rd, -Y` (R319) -/
  | ldMy (d : GPR)
  /-- `LD Rd, Z+` (R320) -/
  | ldZp (d : GPR)
  /-- `LD Rd, -Z` (R321) -/
  | ldMz (d : GPR)
  /-- `LDD Rd, Y+q` (R322) -/
  | lddY (d : GPR) (q : IMM6)
  /-- `LDD Rd, Z+q` (R323) -/
  | lddZ (d : GPR) (q : IMM6)
  /-- `LDS Rd, k` (R324) -/
  | lds (d : GPR) (k : DADDR)
  /-- `ST X, Rr` (R325) -/
  | stX (r : GPR)
  /-- `ST X+, Rr` (R326) -/
  | stXp (r : GPR)
  /-- `ST -X, Rr` (R327) -/
  | stMx (r : GPR)
  /-- `ST Y+, Rr` (R328) -/
  | stYp (r : GPR)
  /-- `ST -Y, Rr` (R329) -/
  | stMy (r : GPR)
  /-- `ST Z+, Rr` (R330) -/
  | stZp (r : GPR)
  /-- `ST -Z, Rr` (R331) -/
  | stMz (r : GPR)
  /-- `STD Y+q, Rr` (R332) -/
  | stdY (q : IMM6) (r : GPR)
  /-- `STD Z+q, Rr` (R333) -/
  | stdZ (q : IMM6) (r : GPR)
  /-- `STS k, Rr` (R334) -/
  | sts (k : DADDR) (r : GPR)
  /-- `LPM` (R335) -/
  | lpm
  /-- `LPM Rd, Z` (R336) -/
  | lpmZ (d : GPR)
  /-- `LPM Rd, Z+` (R337) -/
  | lpmZp (d : GPR)
  /-- `ELPM` (R338) -/
  | elpm
  /-- `ELPM Rd, Z` (R339) -/
  | elpmZ (d : GPR)
  /-- `ELPM Rd, Z+` (R340) -/
  | elpmZp (d : GPR)
  /-- `SPM` (R341) -/
  | spm
  /-- `IN Rd, A` (R342) -/
  | in_ (d : GPR) (a : IMM6)
  /-- `OUT A, Rr` (R343) -/
  | out (a : IMM6) (r : GPR)
  /-- `PUSH Rr` (R344) -/
  | push (r : GPR)
  /-- `POP Rd` (R345) -/
  | pop (d : GPR)
  /-- `LD Rd, Y`, alias of `ldd Rd, Y+0` (R346) -/
  | ldY (d : GPR)
  /-- `LD Rd, Z`, alias of `ldd Rd, Z+0` (R347) -/
  | ldZ (d : GPR)
  /-- `ST Y, Rr`, alias of `std Y+0, Rr` (R348) -/
  | stY (r : GPR)
  /-- `ST Z, Rr`, alias of `std Z+0, Rr` (R349) -/
  | stZ (r : GPR)
  -- Control transfer (spec 43)
  /-- `RJMP k` (R383) -/
  | rjmp (k : LREL)
  /-- `IJMP` (R384) -/
  | ijmp
  /-- `EIJMP` (R385) -/
  | eijmp
  /-- `JMP k` (R386) -/
  | jmp (k : PADDR)
  /-- `RCALL k` (R387) -/
  | rcall (k : LREL)
  /-- `ICALL` (R388) -/
  | icall
  /-- `EICALL` (R389) -/
  | eicall
  /-- `CALL k` (R390) -/
  | call (k : PADDR)
  /-- `RET` (R391) -/
  | ret
  /-- `RETI` (R392) -/
  | reti
  /-- `BRBS s, k` (R393) -/
  | brbs (b : IMM3) (k : SREL)
  /-- `BRBC s, k` (R394) -/
  | brbc (b : IMM3) (k : SREL)
  /-- `CPSE Rd, Rr` (R395) -/
  | cpse (d r : GPR)
  /-- `SBRC Rr, b` (R396) -/
  | sbrc (r : GPR) (b : IMM3)
  /-- `SBRS Rr, b` (R397) -/
  | sbrs (r : GPR) (b : IMM3)
  /-- `SBIC A, b` (R398) -/
  | sbic (a : IMM5) (b : IMM3)
  /-- `SBIS A, b` (R399) -/
  | sbis (a : IMM5) (b : IMM3)
  /-- `BRCS k`, alias of `brbs 0, k` (R400) -/
  | brcs (k : SREL)
  /-- `BRLO k`, alias of `brbs 0, k` (R401) -/
  | brlo (k : SREL)
  /-- `BREQ k`, alias of `brbs 1, k` (R402) -/
  | breq (k : SREL)
  /-- `BRMI k`, alias of `brbs 2, k` (R403) -/
  | brmi (k : SREL)
  /-- `BRVS k`, alias of `brbs 3, k` (R404) -/
  | brvs (k : SREL)
  /-- `BRLT k`, alias of `brbs 4, k` (R405) -/
  | brlt (k : SREL)
  /-- `BRHS k`, alias of `brbs 5, k` (R406) -/
  | brhs (k : SREL)
  /-- `BRTS k`, alias of `brbs 6, k` (R407) -/
  | brts (k : SREL)
  /-- `BRIE k`, alias of `brbs 7, k` (R408) -/
  | brie (k : SREL)
  /-- `BRCC k`, alias of `brbc 0, k` (R409) -/
  | brcc (k : SREL)
  /-- `BRSH k`, alias of `brbc 0, k` (R410) -/
  | brsh (k : SREL)
  /-- `BRNE k`, alias of `brbc 1, k` (R411) -/
  | brne (k : SREL)
  /-- `BRPL k`, alias of `brbc 2, k` (R412) -/
  | brpl (k : SREL)
  /-- `BRVC k`, alias of `brbc 3, k` (R413) -/
  | brvc (k : SREL)
  /-- `BRGE k`, alias of `brbc 4, k` (R414) -/
  | brge (k : SREL)
  /-- `BRHC k`, alias of `brbc 5, k` (R415) -/
  | brhc (k : SREL)
  /-- `BRTC k`, alias of `brbc 6, k` (R416) -/
  | brtc (k : SREL)
  /-- `BRID k`, alias of `brbc 7, k` (R417) -/
  | brid (k : SREL)
  -- MCU control (spec 44)
  /-- `NOP` (R451) -/
  | nop
  /-- `SLEEP` (R452) -/
  | sleep
  /-- `WDR` (R453) -/
  | wdr
  /-- `BREAK` (R454) -/
  | break_
  deriving DecidableEq, Repr

end Sys2Proof
end

