-- ==== Sys2Proof/WellFormed.lean ====
section
/-! DEFINITION. Well-formedness. Operand ranges are carried by the field widths of `Instr` (30 R111, R171, 60 R506), so
the one check left is that the instruction is one the decoder can return: a decoded row and not one of the 45 assembler
spellings, which decode as their expansions (30 R140, R172; 92 D9). -/

namespace Sys2Proof

/-- The instruction is one of the 45 assembler aliases of 30 R172. -/
def Instr.isAlias : Instr → Bool
  | .tst _ | .clr _ | .ser _ | .sbr _ _ | .cbr _ _ | .lsl _ | .rol _ | .sec | .sez | .sen | .sev | .ses | .seh
  | .set_ | .sei | .clc | .clz | .cln | .clv | .cls | .clh | .clt | .cli | .ldY _ | .ldZ _ | .stY _ | .stZ _
  | .brcs _ | .brlo _ | .breq _ | .brmi _ | .brvs _ | .brlt _ | .brhs _ | .brts _ | .brie _ | .brcc _ | .brsh _
  | .brne _ | .brpl _ | .brvc _ | .brge _ | .brhc _ | .brtc _ | .brid _ => true
  | .add _ _ | .adc _ _ | .adiw _ _ | .sub _ _ | .subi _ _ | .sbc _ _ | .sbci _ _ | .sbiw _ _ | .and _ _
  | .andi _ _ | .or _ _ | .ori _ _ | .eor _ _ | .com _ | .neg _ | .inc _ | .dec _ | .cp _ _ | .cpc _ _
  | .cpi _ _ | .mul _ _ | .muls _ _ | .mulsu _ _ | .fmul _ _ | .fmuls _ _ | .fmulsu _ _ | .lsr _ | .asr _
  | .ror _ | .swap _ | .bset _ | .bclr _ | .bst _ _ | .bld _ _ | .sbi _ _ | .cbi _ _ | .mov _ _ | .movw _ _
  | .ldi _ _ | .ldX _ | .ldXp _ | .ldMx _ | .ldYp _ | .ldMy _ | .ldZp _ | .ldMz _ | .lddY _ _ | .lddZ _ _
  | .lds _ _ | .stX _ | .stXp _ | .stMx _ | .stYp _ | .stMy _ | .stZp _ | .stMz _ | .stdY _ _ | .stdZ _ _
  | .sts _ _ | .lpm | .lpmZ _ | .lpmZp _ | .elpm | .elpmZ _ | .elpmZp _ | .spm | .in_ _ _ | .out _ _ | .push _
  | .pop _ | .rjmp _ | .ijmp | .eijmp | .jmp _ | .rcall _ | .icall | .eicall | .call _ | .ret | .reti
  | .brbs _ _ | .brbc _ _ | .cpse _ _ | .sbrc _ _ | .sbrs _ _ | .sbic _ _ | .sbis _ _ | .nop | .sleep | .wdr
  | .break_ => false

/-- Well-formed: an instruction the decoder can return (30 R140). -/
def Instr.wellFormed (i : Instr) : Bool := !i.isAlias

end Sys2Proof
end

