-- ==== Sys2Proof/Decode.lean ====
section
/-! DEFINITION. The decoder and the encoder (spec 30). The normative decoder is `decodeFirst`, the one row of the opcode
table whose match and mask fit the first word (R140, R150). The decision tree of R109 is in Machine/DecisionTree.lean. -/

namespace Sys2Proof

/-! ### Lengths (R100, R101) -/

/-- The first word opens a 4-byte instruction: JMP, CALL, LDS or STS (R101). -/
def is4 (w0 : Word16) : Bool :=
  w0 &&& 0xFE0C == 0x940C || w0 &&& 0xFC0F == 0x9000

/-- The size in bytes of the instruction whose first word is `w0` (R101). -/
def sizeOfWord (w0 : Word16) : Nat := if is4 w0 then 4 else 2

/-! ### The opcode table (R140, R150) -/

/-- A row of R150: a first word `w` is the mnemonic's when `w &&& mask = pattern`. -/
structure OpcodeRow where
  mnemonic : Mnemonic
  pattern : Word16
  mask : Word16
  deriving DecidableEq, Repr

/-- The first word fits the row (R140). -/
def OpcodeRow.fits (row : OpcodeRow) (w0 : Word16) : Bool := w0 &&& row.mask == row.pattern

/-- The decoded rows of R150: arithmetic and logic. -/
def opcodeRowsArith : List OpcodeRow := [
  ⟨.add, 0x0C00, 0xFC00⟩,
  ⟨.adc, 0x1C00, 0xFC00⟩,
  ⟨.adiw, 0x9600, 0xFF00⟩,
  ⟨.sub, 0x1800, 0xFC00⟩,
  ⟨.subi, 0x5000, 0xF000⟩,
  ⟨.sbc, 0x0800, 0xFC00⟩,
  ⟨.sbci, 0x4000, 0xF000⟩,
  ⟨.sbiw, 0x9700, 0xFF00⟩,
  ⟨.and, 0x2000, 0xFC00⟩,
  ⟨.andi, 0x7000, 0xF000⟩,
  ⟨.or, 0x2800, 0xFC00⟩,
  ⟨.ori, 0x6000, 0xF000⟩,
  ⟨.eor, 0x2400, 0xFC00⟩,
  ⟨.com, 0x9400, 0xFE0F⟩,
  ⟨.neg, 0x9401, 0xFE0F⟩,
  ⟨.inc, 0x9403, 0xFE0F⟩,
  ⟨.dec, 0x940A, 0xFE0F⟩,
  ⟨.cp, 0x1400, 0xFC00⟩,
  ⟨.cpc, 0x0400, 0xFC00⟩,
  ⟨.cpi, 0x3000, 0xF000⟩,
  ⟨.mul, 0x9C00, 0xFC00⟩,
  ⟨.muls, 0x0200, 0xFF00⟩,
  ⟨.mulsu, 0x0300, 0xFF88⟩,
  ⟨.fmul, 0x0308, 0xFF88⟩,
  ⟨.fmuls, 0x0380, 0xFF88⟩,
  ⟨.fmulsu, 0x0388, 0xFF88⟩]

/-- The decoded rows of R150: shift, bit and flag instructions. -/
def opcodeRowsShiftBit : List OpcodeRow := [
  ⟨.lsr, 0x9406, 0xFE0F⟩,
  ⟨.asr, 0x9405, 0xFE0F⟩,
  ⟨.ror, 0x9407, 0xFE0F⟩,
  ⟨.swap, 0x9402, 0xFE0F⟩,
  ⟨.bset, 0x9408, 0xFF8F⟩,
  ⟨.bclr, 0x9488, 0xFF8F⟩,
  ⟨.bst, 0xFA00, 0xFE08⟩,
  ⟨.bld, 0xF800, 0xFE08⟩,
  ⟨.sbi, 0x9A00, 0xFF00⟩,
  ⟨.cbi, 0x9800, 0xFF00⟩]

/-- The decoded rows of R150: data transfer. -/
def opcodeRowsTransfer : List OpcodeRow := [
  ⟨.mov, 0x2C00, 0xFC00⟩,
  ⟨.movw, 0x0100, 0xFF00⟩,
  ⟨.ldi, 0xE000, 0xF000⟩,
  ⟨.ldX, 0x900C, 0xFE0F⟩,
  ⟨.ldXp, 0x900D, 0xFE0F⟩,
  ⟨.ldMx, 0x900E, 0xFE0F⟩,
  ⟨.ldYp, 0x9009, 0xFE0F⟩,
  ⟨.ldMy, 0x900A, 0xFE0F⟩,
  ⟨.ldZp, 0x9001, 0xFE0F⟩,
  ⟨.ldMz, 0x9002, 0xFE0F⟩,
  ⟨.lddY, 0x8008, 0xD208⟩,
  ⟨.lddZ, 0x8000, 0xD208⟩,
  ⟨.lds, 0x9000, 0xFE0F⟩,
  ⟨.stX, 0x920C, 0xFE0F⟩,
  ⟨.stXp, 0x920D, 0xFE0F⟩,
  ⟨.stMx, 0x920E, 0xFE0F⟩,
  ⟨.stYp, 0x9209, 0xFE0F⟩,
  ⟨.stMy, 0x920A, 0xFE0F⟩,
  ⟨.stZp, 0x9201, 0xFE0F⟩,
  ⟨.stMz, 0x9202, 0xFE0F⟩,
  ⟨.stdY, 0x8208, 0xD208⟩,
  ⟨.stdZ, 0x8200, 0xD208⟩,
  ⟨.sts, 0x9200, 0xFE0F⟩,
  ⟨.lpm, 0x95C8, 0xFFFF⟩,
  ⟨.lpmZ, 0x9004, 0xFE0F⟩,
  ⟨.lpmZp, 0x9005, 0xFE0F⟩,
  ⟨.elpm, 0x95D8, 0xFFFF⟩,
  ⟨.elpmZ, 0x9006, 0xFE0F⟩,
  ⟨.elpmZp, 0x9007, 0xFE0F⟩,
  ⟨.spm, 0x95E8, 0xFFFF⟩,
  ⟨.in_, 0xB000, 0xF800⟩,
  ⟨.out, 0xB800, 0xF800⟩,
  ⟨.push, 0x920F, 0xFE0F⟩,
  ⟨.pop, 0x900F, 0xFE0F⟩]

/-- The decoded rows of R150: control transfer. -/
def opcodeRowsControl : List OpcodeRow := [
  ⟨.rjmp, 0xC000, 0xF000⟩,
  ⟨.ijmp, 0x9409, 0xFFFF⟩,
  ⟨.eijmp, 0x9419, 0xFFFF⟩,
  ⟨.jmp, 0x940C, 0xFE0E⟩,
  ⟨.rcall, 0xD000, 0xF000⟩,
  ⟨.icall, 0x9509, 0xFFFF⟩,
  ⟨.eicall, 0x9519, 0xFFFF⟩,
  ⟨.call, 0x940E, 0xFE0E⟩,
  ⟨.ret, 0x9508, 0xFFFF⟩,
  ⟨.reti, 0x9518, 0xFFFF⟩,
  ⟨.brbs, 0xF000, 0xFC00⟩,
  ⟨.brbc, 0xF400, 0xFC00⟩,
  ⟨.cpse, 0x1000, 0xFC00⟩,
  ⟨.sbrc, 0xFC00, 0xFE08⟩,
  ⟨.sbrs, 0xFE00, 0xFE08⟩,
  ⟨.sbic, 0x9900, 0xFF00⟩,
  ⟨.sbis, 0x9B00, 0xFF00⟩]

/-- The decoded rows of R150: MCU control. -/
def opcodeRowsMcu : List OpcodeRow := [
  ⟨.nop, 0x0000, 0xFFFF⟩,
  ⟨.sleep, 0x9588, 0xFFFF⟩,
  ⟨.wdr, 0x95A8, 0xFFFF⟩,
  ⟨.break_, 0x9598, 0xFFFF⟩]

/-- The 91 decoded rows of R150. -/
def opcodeRows : List OpcodeRow :=
  opcodeRowsArith ++ opcodeRowsShiftBit ++ opcodeRowsTransfer ++ opcodeRowsControl ++ opcodeRowsMcu

/-- The mnemonic of the decoded row the first word fits, or none (R140, R160). -/
def decodeFirst (w0 : Word16) : Option Mnemonic :=
  (opcodeRows.find? (·.fits w0)).map (·.mnemonic)

/-! ### Field extraction (R121 to R137) -/

/-- `word0[8:4]`, a GPR field (R121, R124, R129, R131 to R134). -/
def fieldD5 (w0 : Word16) : BitVec 5 := w0.extractLsb' 4 5
/-- `word0[9] ++ word0[3:0]`, the source register of RdRr (R121). -/
def fieldR5 (w0 : Word16) : BitVec 5 := w0.extractLsb' 9 1 ++ w0.extractLsb' 0 4
/-- `word0[7:4]` (R122, R125, R127). -/
def fieldD4 (w0 : Word16) : BitVec 4 := w0.extractLsb' 4 4
/-- `word0[3:0]` (R125, R127). -/
def fieldR4 (w0 : Word16) : BitVec 4 := w0.extractLsb' 0 4
/-- `word0[11:8] ++ word0[3:0]`, the constant of RdhK8 (R122). -/
def fieldK8 (w0 : Word16) : BitVec 8 := w0.extractLsb' 8 4 ++ w0.extractLsb' 0 4
/-- `word0[5:4]`, the pair of RdlK6 (R123). -/
def fieldD2 (w0 : Word16) : BitVec 2 := w0.extractLsb' 4 2
/-- `word0[7:6] ++ word0[3:0]`, the constant of RdlK6 (R123). -/
def fieldK6 (w0 : Word16) : BitVec 6 := w0.extractLsb' 6 2 ++ w0.extractLsb' 0 4
/-- `word0[6:4]`, a register of RdmRrm (R126) or the flag number of S3 (R128). -/
def fieldD3 (w0 : Word16) : BitVec 3 := w0.extractLsb' 4 3
/-- `word0[2:0]`, a register of RdmRrm (R126), a bit number (R129, R130) or the flag number of S3K7 (R137). -/
def fieldB3 (w0 : Word16) : BitVec 3 := w0.extractLsb' 0 3
/-- `word0[7:3]`, the I/O index of A5B3 (R130). -/
def fieldA5 (w0 : Word16) : BitVec 5 := w0.extractLsb' 3 5
/-- `word0[10:9] ++ word0[3:0]`, the I/O index of RdA6 (R131). -/
def fieldA6 (w0 : Word16) : BitVec 6 := w0.extractLsb' 9 2 ++ w0.extractLsb' 0 4
/-- `word0[13] ++ word0[11:10] ++ word0[2:0]`, the displacement of RdPq (R133). -/
def fieldQ6 (w0 : Word16) : BitVec 6 :=
  w0.extractLsb' 13 1 ++ w0.extractLsb' 10 2 ++ w0.extractLsb' 0 3
/-- `word0[11:0]`, the displacement of K12 (R135). -/
def fieldK12 (w0 : Word16) : BitVec 12 := w0.extractLsb' 0 12
/-- `word0[9:3]`, the displacement of S3K7 (R137). -/
def fieldK7 (w0 : Word16) : BitVec 7 := w0.extractLsb' 3 7
/-- `word0[8:4] ++ word0[0] ++ word1`, the word address of K22 (R136). -/
def fieldK22 (w0 w1 : Word16) : BitVec 22 := w0.extractLsb' 4 5 ++ w0.extractLsb' 0 1 ++ w1

/-- The builder: the mnemonic's operands, extracted from the words by its one format (R106, R120). -/
def build (m : Mnemonic) (w0 w1 : Word16) : Instr :=
  match m with
  | .add => .add (fieldD5 w0) (fieldR5 w0)
  | .adc => .adc (fieldD5 w0) (fieldR5 w0)
  | .adiw => .adiw (fieldD2 w0) (fieldK6 w0)
  | .sub => .sub (fieldD5 w0) (fieldR5 w0)
  | .subi => .subi (fieldD4 w0) (fieldK8 w0)
  | .sbc => .sbc (fieldD5 w0) (fieldR5 w0)
  | .sbci => .sbci (fieldD4 w0) (fieldK8 w0)
  | .sbiw => .sbiw (fieldD2 w0) (fieldK6 w0)
  | .and => .and (fieldD5 w0) (fieldR5 w0)
  | .andi => .andi (fieldD4 w0) (fieldK8 w0)
  | .or => .or (fieldD5 w0) (fieldR5 w0)
  | .ori => .ori (fieldD4 w0) (fieldK8 w0)
  | .eor => .eor (fieldD5 w0) (fieldR5 w0)
  | .com => .com (fieldD5 w0)
  | .neg => .neg (fieldD5 w0)
  | .inc => .inc (fieldD5 w0)
  | .dec => .dec (fieldD5 w0)
  | .cp => .cp (fieldD5 w0) (fieldR5 w0)
  | .cpc => .cpc (fieldD5 w0) (fieldR5 w0)
  | .cpi => .cpi (fieldD4 w0) (fieldK8 w0)
  | .mul => .mul (fieldD5 w0) (fieldR5 w0)
  | .muls => .muls (fieldD4 w0) (fieldR4 w0)
  | .mulsu => .mulsu (fieldD3 w0) (fieldB3 w0)
  | .fmul => .fmul (fieldD3 w0) (fieldB3 w0)
  | .fmuls => .fmuls (fieldD3 w0) (fieldB3 w0)
  | .fmulsu => .fmulsu (fieldD3 w0) (fieldB3 w0)
  | .lsr => .lsr (fieldD5 w0)
  | .asr => .asr (fieldD5 w0)
  | .ror => .ror (fieldD5 w0)
  | .swap => .swap (fieldD5 w0)
  | .bset => .bset (fieldD3 w0)
  | .bclr => .bclr (fieldD3 w0)
  | .bst => .bst (fieldD5 w0) (fieldB3 w0)
  | .bld => .bld (fieldD5 w0) (fieldB3 w0)
  | .sbi => .sbi (fieldA5 w0) (fieldB3 w0)
  | .cbi => .cbi (fieldA5 w0) (fieldB3 w0)
  | .mov => .mov (fieldD5 w0) (fieldR5 w0)
  | .movw => .movw (fieldD4 w0) (fieldR4 w0)
  | .ldi => .ldi (fieldD4 w0) (fieldK8 w0)
  | .ldX => .ldX (fieldD5 w0)
  | .ldXp => .ldXp (fieldD5 w0)
  | .ldMx => .ldMx (fieldD5 w0)
  | .ldYp => .ldYp (fieldD5 w0)
  | .ldMy => .ldMy (fieldD5 w0)
  | .ldZp => .ldZp (fieldD5 w0)
  | .ldMz => .ldMz (fieldD5 w0)
  | .lddY => .lddY (fieldD5 w0) (fieldQ6 w0)
  | .lddZ => .lddZ (fieldD5 w0) (fieldQ6 w0)
  | .lds => .lds (fieldD5 w0) w1
  | .stX => .stX (fieldD5 w0)
  | .stXp => .stXp (fieldD5 w0)
  | .stMx => .stMx (fieldD5 w0)
  | .stYp => .stYp (fieldD5 w0)
  | .stMy => .stMy (fieldD5 w0)
  | .stZp => .stZp (fieldD5 w0)
  | .stMz => .stMz (fieldD5 w0)
  | .stdY => .stdY (fieldQ6 w0) (fieldD5 w0)
  | .stdZ => .stdZ (fieldQ6 w0) (fieldD5 w0)
  | .sts => .sts w1 (fieldD5 w0)
  | .lpm => .lpm
  | .lpmZ => .lpmZ (fieldD5 w0)
  | .lpmZp => .lpmZp (fieldD5 w0)
  | .elpm => .elpm
  | .elpmZ => .elpmZ (fieldD5 w0)
  | .elpmZp => .elpmZp (fieldD5 w0)
  | .spm => .spm
  | .in_ => .in_ (fieldD5 w0) (fieldA6 w0)
  | .out => .out (fieldA6 w0) (fieldD5 w0)
  | .push => .push (fieldD5 w0)
  | .pop => .pop (fieldD5 w0)
  | .rjmp => .rjmp (fieldK12 w0)
  | .ijmp => .ijmp
  | .eijmp => .eijmp
  | .jmp => .jmp (fieldK22 w0 w1)
  | .rcall => .rcall (fieldK12 w0)
  | .icall => .icall
  | .eicall => .eicall
  | .call => .call (fieldK22 w0 w1)
  | .ret => .ret
  | .reti => .reti
  | .brbs => .brbs (fieldB3 w0) (fieldK7 w0)
  | .brbc => .brbc (fieldB3 w0) (fieldK7 w0)
  | .cpse => .cpse (fieldD5 w0) (fieldR5 w0)
  | .sbrc => .sbrc (fieldD5 w0) (fieldB3 w0)
  | .sbrs => .sbrs (fieldD5 w0) (fieldB3 w0)
  | .sbic => .sbic (fieldA5 w0) (fieldB3 w0)
  | .sbis => .sbis (fieldA5 w0) (fieldB3 w0)
  | .nop => .nop
  | .sleep => .sleep
  | .wdr => .wdr
  | .break_ => .break_

/-- Decode from the two words of R103: the instruction and its size, or "no instruction". -/
def decodeWords (w0 w1 : Word16) : Option (Instr × Nat) :=
  (decodeFirst w0).map fun m => (build m w0 w1, sizeOfWord w0)

/-! ### Decoding bytes (R102) -/

/-- Why a list of bytes gives no instruction. -/
inductive DecodeRefusal where
  /-- Fewer than two bytes: no first word (R102). Safe. -/
  | truncated
  /-- The first word opens a 4-byte instruction and its second word is missing (R101). Safe. -/
  | truncatedSecondWord (w0 : Word16)
  /-- The first word matches no decoded row (R160). Safe. -/
  | noInstruction (w0 : Word16)
  deriving DecidableEq, Repr

/-- The instruction at the head of a list of bytes, each word's low byte first (R102), and the bytes after it. -/
def decode (bytes : List Byte) : Except DecodeRefusal (Instr × List Byte) :=
  match bytes with
  | b0 :: b1 :: rest =>
    let w0 : Word16 := b1 ++ b0
    match decodeFirst w0 with
    | none => .error (.noInstruction w0)
    | some m =>
      if is4 w0 then
        match rest with
        | b2 :: b3 :: rest' => .ok (build m w0 (b3 ++ b2), rest')
        | _ => .error (.truncatedSecondWord w0)
      else .ok (build m w0 0, rest)
  | _ => .error .truncated

/-- The four bytes of a 32-bit number, lowest byte first. -/
def bytesOfNat32 (w : Nat) : List Byte :=
  [BitVec.ofNat 8 w, BitVec.ofNat 8 (w / 2 ^ 8), BitVec.ofNat 8 (w / 2 ^ 16), BitVec.ofNat 8 (w / 2 ^ 24)]

/-- The instruction the decoder reads from the bits `w` of a table row of `nbits` bits: bit 0 is the least significant
bit of the first word, the second word is bits 31..16, and bits above `nbits` are 0. -/
def decodeTableWord (nbits w : Nat) : Option Instr :=
  match decode (bytesOfNat32 (w % 2 ^ nbits)) with
  | .ok (i, _) => some i
  | .error _ => none

/-! ### The encoder (R121 to R139, R171) -/

/-- RdRr, `oooo oord dddd rrrr` (R121). -/
def encRdRr (o : BitVec 6) (d r : BitVec 5) : Word16 := o ++ r.extractLsb' 4 1 ++ d ++ r.extractLsb' 0 4
/-- RdhK8, `oooo KKKK dddd KKKK` (R122). -/
def encRdhK8 (o : BitVec 4) (d : BitVec 4) (k : BitVec 8) : Word16 := o ++ k.extractLsb' 4 4 ++ d ++ k.extractLsb' 0 4
/-- RdlK6, `1001 011o KKdd KKKK` (R123). -/
def encRdlK6 (o : BitVec 1) (d : BitVec 2) (k : BitVec 6) : Word16 :=
  0b1001011#7 ++ o ++ k.extractLsb' 4 2 ++ d ++ k.extractLsb' 0 4
/-- Rd, `1001 010d dddd oooo` (R124). -/
def encRd (d : BitVec 5) (o : BitVec 4) : Word16 := 0b1001010#7 ++ d ++ o
/-- RdP and PRr, POP and PUSH, `1001 00od dddd mmmm` (R132, R124). -/
def encRdP (o : BitVec 1) (d : BitVec 5) (m : BitVec 4) : Word16 := 0b100100#6 ++ o ++ d ++ m
/-- RdhRrh and RdeRre, `oooo oooo dddd rrrr` (R125, R127). -/
def encRdhRrh (o : BitVec 8) (d r : BitVec 4) : Word16 := o ++ d ++ r
/-- RdmRrm, `0000 0011 uddd vrrr` (R126). -/
def encRdmRrm (u v : BitVec 1) (d r : BitVec 3) : Word16 := 0b00000011#8 ++ u ++ d ++ v ++ r
/-- S3, `1001 0100 osss 1000` (R128). -/
def encS3 (o : BitVec 1) (b : BitVec 3) : Word16 := 0b10010100#8 ++ o ++ b ++ 0b1000#4
/-- RdB3, `1111 1ood dddd 0bbb` (R129). -/
def encRdB3 (o : BitVec 2) (d : BitVec 5) (b : BitVec 3) : Word16 := 0b11111#5 ++ o ++ d ++ 0b0#1 ++ b
/-- A5B3, `1001 10oo AAAA Abbb` (R130). -/
def encA5B3 (o : BitVec 2) (a : BitVec 5) (b : BitVec 3) : Word16 := 0b100110#6 ++ o ++ a ++ b
/-- RdA6, `1011 oAAd dddd AAAA` (R131). -/
def encRdA6 (o : BitVec 1) (d : BitVec 5) (a : BitVec 6) : Word16 :=
  0b1011#4 ++ o ++ a.extractLsb' 4 2 ++ d ++ a.extractLsb' 0 4
/-- RdPq, `10q0 qqod dddd pqqq` (R133). -/
def encRdPq (o p : BitVec 1) (d : BitVec 5) (q : BitVec 6) : Word16 :=
  0b10#2 ++ q.extractLsb' 5 1 ++ 0b0#1 ++ q.extractLsb' 3 2 ++ o ++ d ++ p ++ q.extractLsb' 0 3
/-- K12, `110o kkkk kkkk kkkk` (R135). -/
def encK12 (o : BitVec 1) (k : BitVec 12) : Word16 := 0b110#3 ++ o ++ k
/-- The first word of K22, `1001 010k kkkk 11ok` (R136). -/
def encK22 (o : BitVec 1) (k : BitVec 22) : Word16 :=
  0b1001010#7 ++ k.extractLsb' 17 5 ++ 0b11#2 ++ o ++ k.extractLsb' 16 1
/-- S3K7, `1111 0okk kkkk ksss` (R137). -/
def encS3K7 (o : BitVec 1) (k : BitVec 7) (b : BitVec 3) : Word16 := 0b11110#5 ++ o ++ k ++ b

/-- The words of an instruction (R121 to R138); an alias has the words of its expansion (R139, R172). -/
def encode (i : Instr) : List Word16 :=
  match i with
  | .add d r => [encRdRr 0b000011 d r]
  | .adc d r => [encRdRr 0b000111 d r]
  | .adiw d k => [encRdlK6 0b0 d k]
  | .sub d r => [encRdRr 0b000110 d r]
  | .subi d k => [encRdhK8 0b0101 d k]
  | .sbc d r => [encRdRr 0b000010 d r]
  | .sbci d k => [encRdhK8 0b0100 d k]
  | .sbiw d k => [encRdlK6 0b1 d k]
  | .and d r => [encRdRr 0b001000 d r]
  | .andi d k => [encRdhK8 0b0111 d k]
  | .or d r => [encRdRr 0b001010 d r]
  | .ori d k => [encRdhK8 0b0110 d k]
  | .eor d r => [encRdRr 0b001001 d r]
  | .com d => [encRd d 0b0000]
  | .neg d => [encRd d 0b0001]
  | .inc d => [encRd d 0b0011]
  | .dec d => [encRd d 0b1010]
  | .cp d r => [encRdRr 0b000101 d r]
  | .cpc d r => [encRdRr 0b000001 d r]
  | .cpi d k => [encRdhK8 0b0011 d k]
  | .mul d r => [encRdRr 0b100111 d r]
  | .muls d r => [encRdhRrh 0b00000010 d r]
  | .mulsu d r => [encRdmRrm 0b0 0b0 d r]
  | .fmul d r => [encRdmRrm 0b0 0b1 d r]
  | .fmuls d r => [encRdmRrm 0b1 0b0 d r]
  | .fmulsu d r => [encRdmRrm 0b1 0b1 d r]
  | .tst d => [encRdRr 0b001000 d d]
  | .clr d => [encRdRr 0b001001 d d]
  | .ser d => [encRdhK8 0b1110 d 0xFF]
  | .sbr d k => [encRdhK8 0b0110 d k]
  | .cbr d k => [encRdhK8 0b0111 d (0xFF - k)]
  | .lsl d => [encRdRr 0b000011 d d]
  | .rol d => [encRdRr 0b000111 d d]
  | .lsr d => [encRd d 0b0110]
  | .asr d => [encRd d 0b0101]
  | .ror d => [encRd d 0b0111]
  | .swap d => [encRd d 0b0010]
  | .bset b => [encS3 0b0 b]
  | .bclr b => [encS3 0b1 b]
  | .bst d b => [encRdB3 0b01 d b]
  | .bld d b => [encRdB3 0b00 d b]
  | .sbi a b => [encA5B3 0b10 a b]
  | .cbi a b => [encA5B3 0b00 a b]
  | .sec => [0x9408]
  | .sez => [0x9418]
  | .sen => [0x9428]
  | .sev => [0x9438]
  | .ses => [0x9448]
  | .seh => [0x9458]
  | .set_ => [0x9468]
  | .sei => [0x9478]
  | .clc => [0x9488]
  | .clz => [0x9498]
  | .cln => [0x94A8]
  | .clv => [0x94B8]
  | .cls => [0x94C8]
  | .clh => [0x94D8]
  | .clt => [0x94E8]
  | .cli => [0x94F8]
  | .mov d r => [encRdRr 0b001011 d r]
  | .movw d r => [encRdhRrh 0b00000001 d r]
  | .ldi d k => [encRdhK8 0b1110 d k]
  | .ldX d => [encRdP 0b0 d 0b1100]
  | .ldXp d => [encRdP 0b0 d 0b1101]
  | .ldMx d => [encRdP 0b0 d 0b1110]
  | .ldYp d => [encRdP 0b0 d 0b1001]
  | .ldMy d => [encRdP 0b0 d 0b1010]
  | .ldZp d => [encRdP 0b0 d 0b0001]
  | .ldMz d => [encRdP 0b0 d 0b0010]
  | .lddY d q => [encRdPq 0b0 0b1 d q]
  | .lddZ d q => [encRdPq 0b0 0b0 d q]
  | .lds d k => [encRdP 0b0 d 0b0000, k]
  | .stX r => [encRdP 0b1 r 0b1100]
  | .stXp r => [encRdP 0b1 r 0b1101]
  | .stMx r => [encRdP 0b1 r 0b1110]
  | .stYp r => [encRdP 0b1 r 0b1001]
  | .stMy r => [encRdP 0b1 r 0b1010]
  | .stZp r => [encRdP 0b1 r 0b0001]
  | .stMz r => [encRdP 0b1 r 0b0010]
  | .stdY q r => [encRdPq 0b1 0b1 r q]
  | .stdZ q r => [encRdPq 0b1 0b0 r q]
  | .sts k r => [encRdP 0b1 r 0b0000, k]
  | .lpm => [0x95C8]
  | .lpmZ d => [encRdP 0b0 d 0b0100]
  | .lpmZp d => [encRdP 0b0 d 0b0101]
  | .elpm => [0x95D8]
  | .elpmZ d => [encRdP 0b0 d 0b0110]
  | .elpmZp d => [encRdP 0b0 d 0b0111]
  | .spm => [0x95E8]
  | .in_ d a => [encRdA6 0b0 d a]
  | .out a r => [encRdA6 0b1 r a]
  | .push r => [encRdP 0b1 r 0b1111]
  | .pop d => [encRdP 0b0 d 0b1111]
  | .ldY d => [encRdPq 0b0 0b1 d 0]
  | .ldZ d => [encRdPq 0b0 0b0 d 0]
  | .stY r => [encRdPq 0b1 0b1 r 0]
  | .stZ r => [encRdPq 0b1 0b0 r 0]
  | .rjmp k => [encK12 0b0 k]
  | .ijmp => [0x9409]
  | .eijmp => [0x9419]
  | .jmp k => [encK22 0b0 k, k.extractLsb' 0 16]
  | .rcall k => [encK12 0b1 k]
  | .icall => [0x9509]
  | .eicall => [0x9519]
  | .call k => [encK22 0b1 k, k.extractLsb' 0 16]
  | .ret => [0x9508]
  | .reti => [0x9518]
  | .brbs b k => [encS3K7 0b0 k b]
  | .brbc b k => [encS3K7 0b1 k b]
  | .cpse d r => [encRdRr 0b000100 d r]
  | .sbrc r b => [encRdB3 0b10 r b]
  | .sbrs r b => [encRdB3 0b11 r b]
  | .sbic a b => [encA5B3 0b01 a b]
  | .sbis a b => [encA5B3 0b11 a b]
  | .brcs k => [encS3K7 0b0 k 0b000]
  | .brlo k => [encS3K7 0b0 k 0b000]
  | .breq k => [encS3K7 0b0 k 0b001]
  | .brmi k => [encS3K7 0b0 k 0b010]
  | .brvs k => [encS3K7 0b0 k 0b011]
  | .brlt k => [encS3K7 0b0 k 0b100]
  | .brhs k => [encS3K7 0b0 k 0b101]
  | .brts k => [encS3K7 0b0 k 0b110]
  | .brie k => [encS3K7 0b0 k 0b111]
  | .brcc k => [encS3K7 0b1 k 0b000]
  | .brsh k => [encS3K7 0b1 k 0b000]
  | .brne k => [encS3K7 0b1 k 0b001]
  | .brpl k => [encS3K7 0b1 k 0b010]
  | .brvc k => [encS3K7 0b1 k 0b011]
  | .brge k => [encS3K7 0b1 k 0b100]
  | .brhc k => [encS3K7 0b1 k 0b101]
  | .brtc k => [encS3K7 0b1 k 0b110]
  | .brid k => [encS3K7 0b1 k 0b111]
  | .nop => [0x0000]
  | .sleep => [0x9588]
  | .wdr => [0x95A8]
  | .break_ => [0x9598]

/-- A word as it lies in program memory: low byte first (R102). -/
def wordBytes (w : Word16) : List Byte := [w.extractLsb' 0 8, w.extractLsb' 8 8]

/-- The bytes of an instruction in program memory (R102). -/
def encodeBytes (i : Instr) : List Byte := (encode i).flatMap wordBytes

/-! ### Aliases (R172) -/

/-- The instruction an assembler alias stands for, and any other instruction itself (R172). -/
def expansion (i : Instr) : Instr :=
  match i with
  | .add d r => .add d r
  | .adc d r => .adc d r
  | .adiw d k => .adiw d k
  | .sub d r => .sub d r
  | .subi d k => .subi d k
  | .sbc d r => .sbc d r
  | .sbci d k => .sbci d k
  | .sbiw d k => .sbiw d k
  | .and d r => .and d r
  | .andi d k => .andi d k
  | .or d r => .or d r
  | .ori d k => .ori d k
  | .eor d r => .eor d r
  | .com d => .com d
  | .neg d => .neg d
  | .inc d => .inc d
  | .dec d => .dec d
  | .cp d r => .cp d r
  | .cpc d r => .cpc d r
  | .cpi d k => .cpi d k
  | .mul d r => .mul d r
  | .muls d r => .muls d r
  | .mulsu d r => .mulsu d r
  | .fmul d r => .fmul d r
  | .fmuls d r => .fmuls d r
  | .fmulsu d r => .fmulsu d r
  | .tst d => .and d d
  | .clr d => .eor d d
  | .ser d => .ldi d 0xFF
  | .sbr d k => .ori d k
  | .cbr d k => .andi d (0xFF - k)
  | .lsl d => .add d d
  | .rol d => .adc d d
  | .lsr d => .lsr d
  | .asr d => .asr d
  | .ror d => .ror d
  | .swap d => .swap d
  | .bset b => .bset b
  | .bclr b => .bclr b
  | .bst d b => .bst d b
  | .bld d b => .bld d b
  | .sbi a b => .sbi a b
  | .cbi a b => .cbi a b
  | .sec => .bset 0
  | .sez => .bset 1
  | .sen => .bset 2
  | .sev => .bset 3
  | .ses => .bset 4
  | .seh => .bset 5
  | .set_ => .bset 6
  | .sei => .bset 7
  | .clc => .bclr 0
  | .clz => .bclr 1
  | .cln => .bclr 2
  | .clv => .bclr 3
  | .cls => .bclr 4
  | .clh => .bclr 5
  | .clt => .bclr 6
  | .cli => .bclr 7
  | .mov d r => .mov d r
  | .movw d r => .movw d r
  | .ldi d k => .ldi d k
  | .ldX d => .ldX d
  | .ldXp d => .ldXp d
  | .ldMx d => .ldMx d
  | .ldYp d => .ldYp d
  | .ldMy d => .ldMy d
  | .ldZp d => .ldZp d
  | .ldMz d => .ldMz d
  | .lddY d q => .lddY d q
  | .lddZ d q => .lddZ d q
  | .lds d k => .lds d k
  | .stX r => .stX r
  | .stXp r => .stXp r
  | .stMx r => .stMx r
  | .stYp r => .stYp r
  | .stMy r => .stMy r
  | .stZp r => .stZp r
  | .stMz r => .stMz r
  | .stdY q r => .stdY q r
  | .stdZ q r => .stdZ q r
  | .sts k r => .sts k r
  | .lpm => .lpm
  | .lpmZ d => .lpmZ d
  | .lpmZp d => .lpmZp d
  | .elpm => .elpm
  | .elpmZ d => .elpmZ d
  | .elpmZp d => .elpmZp d
  | .spm => .spm
  | .in_ d a => .in_ d a
  | .out a r => .out a r
  | .push r => .push r
  | .pop d => .pop d
  | .ldY d => .lddY d 0
  | .ldZ d => .lddZ d 0
  | .stY r => .stdY 0 r
  | .stZ r => .stdZ 0 r
  | .rjmp k => .rjmp k
  | .ijmp => .ijmp
  | .eijmp => .eijmp
  | .jmp k => .jmp k
  | .rcall k => .rcall k
  | .icall => .icall
  | .eicall => .eicall
  | .call k => .call k
  | .ret => .ret
  | .reti => .reti
  | .brbs b k => .brbs b k
  | .brbc b k => .brbc b k
  | .cpse d r => .cpse d r
  | .sbrc r b => .sbrc r b
  | .sbrs r b => .sbrs r b
  | .sbic a b => .sbic a b
  | .sbis a b => .sbis a b
  | .brcs k => .brbs 0 k
  | .brlo k => .brbs 0 k
  | .breq k => .brbs 1 k
  | .brmi k => .brbs 2 k
  | .brvs k => .brbs 3 k
  | .brlt k => .brbs 4 k
  | .brhs k => .brbs 5 k
  | .brts k => .brbs 6 k
  | .brie k => .brbs 7 k
  | .brcc k => .brbc 0 k
  | .brsh k => .brbc 0 k
  | .brne k => .brbc 1 k
  | .brpl k => .brbc 2 k
  | .brvc k => .brbc 3 k
  | .brge k => .brbc 4 k
  | .brhc k => .brbc 5 k
  | .brtc k => .brbc 6 k
  | .brid k => .brbc 7 k
  | .nop => .nop
  | .sleep => .sleep
  | .wdr => .wdr
  | .break_ => .break_

/-- The decoded mnemonic an instruction executes under: its row's, and for an alias that of its expansion (R140, R172). -/
def Instr.mnemonic (i : Instr) : Mnemonic :=
  match i with
  | .add _ _ | .lsl _ => .add
  | .adc _ _ | .rol _ => .adc
  | .adiw _ _ => .adiw
  | .sub _ _ => .sub
  | .subi _ _ => .subi
  | .sbc _ _ => .sbc
  | .sbci _ _ => .sbci
  | .sbiw _ _ => .sbiw
  | .and _ _ | .tst _ => .and
  | .andi _ _ | .cbr _ _ => .andi
  | .or _ _ => .or
  | .ori _ _ | .sbr _ _ => .ori
  | .eor _ _ | .clr _ => .eor
  | .com _ => .com
  | .neg _ => .neg
  | .inc _ => .inc
  | .dec _ => .dec
  | .cp _ _ => .cp
  | .cpc _ _ => .cpc
  | .cpi _ _ => .cpi
  | .mul _ _ => .mul
  | .muls _ _ => .muls
  | .mulsu _ _ => .mulsu
  | .fmul _ _ => .fmul
  | .fmuls _ _ => .fmuls
  | .fmulsu _ _ => .fmulsu
  | .ser _ | .ldi _ _ => .ldi
  | .lsr _ => .lsr
  | .asr _ => .asr
  | .ror _ => .ror
  | .swap _ => .swap
  | .bset _ | .sec | .sez | .sen | .sev | .ses | .seh | .set_ | .sei => .bset
  | .bclr _ | .clc | .clz | .cln | .clv | .cls | .clh | .clt | .cli => .bclr
  | .bst _ _ => .bst
  | .bld _ _ => .bld
  | .sbi _ _ => .sbi
  | .cbi _ _ => .cbi
  | .mov _ _ => .mov
  | .movw _ _ => .movw
  | .ldX _ => .ldX
  | .ldXp _ => .ldXp
  | .ldMx _ => .ldMx
  | .ldYp _ => .ldYp
  | .ldMy _ => .ldMy
  | .ldZp _ => .ldZp
  | .ldMz _ => .ldMz
  | .lddY _ _ | .ldY _ => .lddY
  | .lddZ _ _ | .ldZ _ => .lddZ
  | .lds _ _ => .lds
  | .stX _ => .stX
  | .stXp _ => .stXp
  | .stMx _ => .stMx
  | .stYp _ => .stYp
  | .stMy _ => .stMy
  | .stZp _ => .stZp
  | .stMz _ => .stMz
  | .stdY _ _ | .stY _ => .stdY
  | .stdZ _ _ | .stZ _ => .stdZ
  | .sts _ _ => .sts
  | .lpm => .lpm
  | .lpmZ _ => .lpmZ
  | .lpmZp _ => .lpmZp
  | .elpm => .elpm
  | .elpmZ _ => .elpmZ
  | .elpmZp _ => .elpmZp
  | .spm => .spm
  | .in_ _ _ => .in_
  | .out _ _ => .out
  | .push _ => .push
  | .pop _ => .pop
  | .rjmp _ => .rjmp
  | .ijmp => .ijmp
  | .eijmp => .eijmp
  | .jmp _ => .jmp
  | .rcall _ => .rcall
  | .icall => .icall
  | .eicall => .eicall
  | .call _ => .call
  | .ret => .ret
  | .reti => .reti
  | .brbs _ _ | .brcs _ | .brlo _ | .breq _ | .brmi _ | .brvs _ | .brlt _ | .brhs _ | .brts _ | .brie _ => .brbs
  | .brbc _ _ | .brcc _ | .brsh _ | .brne _ | .brpl _ | .brvc _ | .brge _ | .brhc _ | .brtc _ | .brid _ => .brbc
  | .cpse _ _ => .cpse
  | .sbrc _ _ => .sbrc
  | .sbrs _ _ => .sbrs
  | .sbic _ _ => .sbic
  | .sbis _ _ => .sbis
  | .nop => .nop
  | .sleep => .sleep
  | .wdr => .wdr
  | .break_ => .break_

end Sys2Proof
end

