-- ==== Sys2Proof/Config.lean ====
section
/-! DEFINITION. Configuration: the parameters spec 00 R11 leaves open, as plain data with the spec's defaults, and the
one free value of the model, what a plugged-in I/O handler answers. -/

namespace Sys2Proof

/-- One call of a plugged-in I/O handler (20 R66, R67): the index and the byte answered or written. -/
inductive IoAccess where
  | read (index : Nat) (value : Byte)
  | write (index : Nat) (value : Byte)
  deriving DecidableEq, Repr

/-- The device parameters of 00 R11 (92 D2, D3, D8, D11, D14, D15, D18), constant for a machine. `IRQ_VECTOR` is an argument
of interrupt entry and of the driver (60 R520). -/
structure Device where
  /-- `N_IO`, bytes of the I/O region. -/
  nIo : Nat
  /-- `N_RAM`, bytes of RAM. -/
  nRam : Nat
  /-- `FLASH_BYTES`, bytes of program memory. -/
  flashBytes : Nat
  /-- `PC_BITS`, width of `pc` as a byte address. -/
  pcBits : Nat
  /-- `HAS_RAMPZ`, the page-select register exists. -/
  hasRampz : Bool
  /-- `RAMPZ_MASK`, the bits of RAMPZ that ELPM uses. -/
  rampzMask : Byte
  /-- `SREG_IO`, I/O index of SREG. -/
  sregIo : Nat
  /-- `SPH_IO`, I/O index of SPH. -/
  sphIo : Nat
  /-- `SPL_IO`, I/O index of SPL. -/
  splIo : Nat
  /-- `RAMPZ_IO`, I/O index of RAMPZ. -/
  rampzIo : Nat
  /-- The I/O indices with a plugged-in handler; every other index not of the core is a storage byte (92 D15). -/
  plugged : List Nat
  /-- `UNIMPL_SET`, the mnemonics whose execution faults (60 R502, 44 R455; 92 D8). -/
  unimplSet : List Mnemonic
  /-- `CYC_BASE`, as the entries in which it departs from the table of 70 R580 (92 D18). -/
  cycOverride : List (Mnemonic × Nat)
  deriving DecidableEq, Repr

/-- `SEG_SIZE = 32 + N_IO + N_RAM` (00 R11, 20 R60). -/
def Device.segSize (d : Device) : Nat := 32 + d.nIo + d.nRam

/-- `2 ^ PC_BITS`, the modulus of every write of `pc` and `nextpc` (10 R25). -/
def Device.pcMod (d : Device) : Nat := 2 ^ d.pcBits

/-- The constraints of 00 R11 on the parameters. -/
def Device.wf (d : Device) : Bool :=
  decide (64 ≤ d.nIo) && decide (d.segSize ≤ 65536) && decide (d.flashBytes % 2 = 0)
    && decide (d.flashBytes ≤ d.pcMod) && decide (d.pcBits ≤ 23)
    && decide (d.sregIo < 64) && decide (d.sphIo < 64) && decide (d.splIo < 64) && decide (d.rampzIo < 64)
    && decide ([d.sregIo, d.sphIo, d.splIo, d.rampzIo].Nodup)

/-- The default of `UNIMPL_SET` (00 R11, 92 D8): the mnemonics to which the spec gives no meaning (44 R455). -/
def Config.defaultUnimplSet : List Mnemonic := [.break_, .sleep, .spm, .wdr, .eijmp, .eicall]

/-- The defaults of 00 R11. DESIGN CHOICE (log 1): unsafe for a claim about `State.reset`, which takes them. -/
def Config.defaultDevice : Device where
  nIo := 224
  nRam := 4096
  flashBytes := 131072
  pcBits := 17
  hasRampz := true
  rampzMask := 0x01
  sregIo := 0x3F
  sphIo := 0x3E
  splIo := 0x3D
  rampzIo := 0x3B
  plugged := []
  unimplSet := Config.defaultUnimplSet
  cycOverride := []

/-- What the plugged-in handler of an I/O index answers to a read, given every earlier handler call (newest first) and
the cycle counter. A free value: no body, nothing constrains it (20 R66, 93 U7). DESIGN CHOICE (log 5): safe for a claim about one
run, unsafe for one that compares two runs. -/
opaque Config.handlerAnswer : List IoAccess → Nat → Nat → Byte

end Sys2Proof
end

