-- ==== Sys2Proof/Machine/State.lean ====
section
/-! DEFINITION. The state of the core (spec 10), the faults of a step (spec 60) and the state after reset (70 R560). -/

namespace Sys2Proof.Machine

/-- A sparse memory: addresses strictly rising, no entry equal to the unlisted byte. -/
abbrev Memory := List Host.Cell

/-- What an unlisted address of any of the three memories reads as. For `io` it is the spec's reset value (10 R44).
DESIGN CHOICE for `ram` (log 3) and for `flash` (log 4): unsafe. -/
def Memory.unlisted : Byte := 0x00

/-- The canonical form: addresses strictly rising, no entry equal to the unlisted byte. -/
def Memory.wf : Memory → Bool
  | [] => true
  | cell :: rest => cell.2 != Memory.unlisted && rest.all (fun other => decide (cell.1 < other.1)) && Memory.wf rest

/-- The eight status flags, each a stored bit (10 R26, R28). -/
structure Flags where
  /-- carry, SREG bit 0 -/
  c : Bool
  /-- zero, SREG bit 1 -/
  z : Bool
  /-- negative, SREG bit 2 -/
  n : Bool
  /-- overflow, SREG bit 3 -/
  v : Bool
  /-- sign, SREG bit 4 -/
  s : Bool
  /-- half-carry, SREG bit 5 -/
  h : Bool
  /-- transfer bit, SREG bit 6 -/
  t : Bool
  /-- global interrupt enable, SREG bit 7 -/
  i : Bool
  deriving DecidableEq, Repr

/-- Which access of 60 R504 was out of range. -/
inductive AccessKind where
  | fetch
  | dataRead
  | dataWrite
  | flashRead
  deriving DecidableEq, Repr

/-- The faults of a step (60 R500, R503). A step that faults changes nothing, so the state it leaves is the state before
the step, which the caller holds. -/
inductive Fault where
  /-- Raised by the fetch of a first word that matches no decoded row (60 R501). Safe: the spec's own outcome. -/
  | decodeFailure (pc : Nat) (word0 : Word16)
  /-- Raised by every instruction whose mnemonic is in the device's `UNIMPL_SET`: by default BREAK, SLEEP, SPM, WDR, EIJMP
  and EICALL (60 R502, 44 R455). Safe: the spec's own outcome (log 6). -/
  | unimplemented (mnemonic : Mnemonic)
  /-- Raised by one of those six on a device whose `UNIMPL_SET` lacks it: who removes it supplies its meaning, and the spec
  supplies none (44 R455). The model's own fault, DESIGN CHOICE (log 6). Safe: the model stops. -/
  | unsupplied (mnemonic : Mnemonic)
  /-- Raised by a fetch, a skip's look-ahead, a data access or a program-memory read outside its memory (60 R504).
  Safe: the spec's own outcome. -/
  | outOfRange (kind : AccessKind) (addr : Nat)
  /-- Raised by a pointer-update load or store, LPM or ELPM whose data register is part of the pointer (60 R505).
  Safe: the spec's own outcome (log 7). -/
  | unpredictable (mnemonic : Mnemonic)
  deriving DecidableEq, Repr

/-- The refusals. -/
inductive Refusal where
  /-- Raised by `exec` for an instruction that has no meaning yet; no arm raises it. Safe. -/
  | notModelled (mnemonic : String)
  deriving DecidableEq, Repr

/-- The state of the core (10 R20), with the program image (10 R35), the device parameters (log 1) and the history of
handler calls (log 5). -/
structure State where
  /-- The device parameters, constant (00 R11). -/
  dev : Device
  /-- `R[0]` .. `R[31]` (10 R21). -/
  regs : Vector Byte 32
  /-- The eight flags; SREG is a view of them (10 R26, R27). -/
  flags : Flags
  /-- Byte address of the instruction being executed (10 R24). -/
  pc : Nat
  /-- Where control goes after it; equal to `pc` between steps (10 R25, R36). -/
  nextpc : Nat
  /-- Low byte of the stack pointer (10 R29). -/
  spl : Byte
  /-- High byte of the stack pointer (10 R29). -/
  sph : Byte
  /-- The page-select register; unreachable when `dev.hasRampz` is false (10 R30). -/
  rampz : Byte
  /-- Elapsed cycles, unbounded (10 R31). -/
  cycles : Nat
  /-- The storage bytes of the I/O region, by I/O index (10 R32). -/
  io : Memory
  /-- The calls of plugged-in handlers, newest first: the model's own field (20 R69, log 5). -/
  ioTrace : List IoAccess
  /-- RAM, by data address (10 R34). -/
  ram : Memory
  /-- Program memory, by program byte address; no step writes it (10 R35). -/
  flash : Memory
  deriving DecidableEq, Repr

/-- What a step, an instruction or an operation of the core answers. -/
abbrev Outcome := Host.Outcome State Fault Refusal

/-- The state after reset (70 R560; 10 R40 to R44). General registers and RAM, which the spec leaves unspecified, are 0:
DESIGN CHOICE (logs 2, 3), unsafe. Program memory has nothing loaded (log 4). -/
def State.reset : State where
  dev := Config.defaultDevice
  regs := Vector.replicate 32 0x00
  flags := { c := false, z := false, n := false, v := false, s := false, h := false, t := false, i := false }
  pc := 0
  nextpc := 0
  spl := 0x00
  sph := 0x00
  rampz := 0x00
  cycles := 0
  io := []
  ioTrace := []
  ram := []
  flash := []

end Sys2Proof.Machine
end

