-- ==== Sys2Proof/Machine/Flags.lean ====
section
/-! DEFINITION. The flag computations: SREG as a view of the flags (10 R27), the ALU primitives (40 R201 to R204), the
shift primitives (41 R260, R261), the word and multiply flags (40 R212, R217, R230 to R235). A primitive takes the flags
before and answers its result with the flags after; a flag the rule does not name is kept. -/

namespace Sys2Proof.Machine

/-! ### SREG -/

/-- Flag number `b` of SREG: 0 C, 1 Z, 2 N, 3 V, 4 S, 5 H, 6 T, 7 I (10 R27). -/
def Flags.bit (f : Flags) (b : IMM3) : Bool :=
  match b.toNat with
  | 0 => f.c
  | 1 => f.z
  | 2 => f.n
  | 3 => f.v
  | 4 => f.s
  | 5 => f.h
  | 6 => f.t
  | _ => f.i

/-- Write flag number `b` and no other (41 R266, R267). -/
def Flags.setBit (f : Flags) (b : IMM3) (value : Bool) : Flags :=
  match b.toNat with
  | 0 => { f with c := value }
  | 1 => { f with z := value }
  | 2 => { f with n := value }
  | 3 => { f with v := value }
  | 4 => { f with s := value }
  | 5 => { f with h := value }
  | 6 => { f with t := value }
  | _ => { f with i := value }

/-- The packed byte I T H S V N Z C, bit 7 to bit 0 (10 R27). -/
def Flags.toByte (f : Flags) : Byte :=
  BitVec.ofBool f.i ++ BitVec.ofBool f.t ++ BitVec.ofBool f.h ++ BitVec.ofBool f.s
    ++ BitVec.ofBool f.v ++ BitVec.ofBool f.n ++ BitVec.ofBool f.z ++ BitVec.ofBool f.c

/-- The flags set from a byte written to SREG (10 R27). -/
def Flags.ofByte (b : Byte) : Flags where
  c := b.getLsbD 0
  z := b.getLsbD 1
  n := b.getLsbD 2
  v := b.getLsbD 3
  s := b.getLsbD 4
  h := b.getLsbD 5
  t := b.getLsbD 6
  i := b.getLsbD 7

/-! ### 8-bit arithmetic and logic -/

/-- `Add8(a, b, c)` (40 R201). -/
def add8 (a b : Byte) (carry : Bool) (f : Flags) : Byte × Flags :=
  let r : Byte := BitVec.ofNat 8 (a.toNat + b.toNat + carry.toNat)
  let v := (a.msb && b.msb && !r.msb) || (!a.msb && !b.msb && r.msb)
  (r, { f with
    h := decide (15 < a.toNat % 16 + b.toNat % 16 + carry.toNat)
    c := decide (256 ≤ a.toNat + b.toNat + carry.toNat)
    v := v
    n := r.msb
    z := r == 0
    s := r.msb ^^ v })

/-- `Sub8(a, b, c)` (40 R202). -/
def sub8 (a b : Byte) (borrow : Bool) (f : Flags) : Byte × Flags :=
  let r : Byte := BitVec.ofInt 8 ((a.toNat : Int) - b.toNat - borrow.toNat)
  let v := (a.msb && !b.msb && !r.msb) || (!a.msb && b.msb && r.msb)
  (r, { f with
    h := decide (a.toNat % 16 < b.toNat % 16 + borrow.toNat)
    c := decide (a.toNat < b.toNat + borrow.toNat)
    v := v
    n := r.msb
    z := r == 0
    s := r.msb ^^ v })

/-- `Sub8PZ(a, b, c)`: as `sub8`, the zero flag ANDed with the one before (40 R203). -/
def sub8pz (a b : Byte) (borrow : Bool) (f : Flags) : Byte × Flags :=
  let out := sub8 a b borrow f
  (out.1, { out.2 with z := out.1 == 0 && f.z })

/-- `Logic8(r)` (40 R204). -/
def logic8 (r : Byte) (f : Flags) : Byte × Flags :=
  (r, { f with v := false, n := r.msb, z := r == 0, s := r.msb })

/-- COM: `Logic8` of the complement, then C set (40 R223). -/
def com8 (a : Byte) (f : Flags) : Byte × Flags :=
  let out := logic8 (0xFF - a) f
  (out.1, { out.2 with c := true })

/-- INC: C and H kept (40 R225). -/
def inc8 (a : Byte) (f : Flags) : Byte × Flags :=
  let r := a + 1
  let v := r == 0x80
  (r, { f with v := v, n := r.msb, z := r == 0, s := r.msb ^^ v })

/-- DEC: C and H kept (40 R226). -/
def dec8 (a : Byte) (f : Flags) : Byte × Flags :=
  let r := a - 1
  let v := r == 0x7F
  (r, { f with v := v, n := r.msb, z := r == 0, s := r.msb ^^ v })

/-! ### Shifts -/

/-- `ShiftLeft8(v, inj)` (41 R260). -/
def shiftLeft8 (a : Byte) (inject : Bool) (f : Flags) : Byte × Flags :=
  let r : Byte := a.extractLsb' 0 7 ++ BitVec.ofBool inject
  let c := a.getLsbD 7
  let v := r.msb ^^ c
  (r, { f with c := c, h := a.getLsbD 3, n := r.msb, z := r == 0, v := v, s := r.msb ^^ v })

/-- `ShiftRight8(v, inj)`; H kept (41 R261). -/
def shiftRight8 (a : Byte) (inject : Bool) (f : Flags) : Byte × Flags :=
  let r : Byte := BitVec.ofBool inject ++ a.extractLsb' 1 7
  let c := a.getLsbD 0
  let v := r.msb ^^ c
  (r, { f with c := c, n := r.msb, z := r == 0, v := v, s := r.msb ^^ v })

/-! ### Words and products -/

/-- ADIW: the sum of a word and a constant; H kept (40 R212). -/
def addWord (a : Word16) (k : IMM6) (f : Flags) : Word16 × Flags :=
  let x : Word16 := a + k.setWidth 16
  let v := !a.msb && x.msb
  (x, { f with v := v, c := !x.msb && a.msb, n := x.msb, z := x == 0, s := x.msb ^^ v })

/-- SBIW: the difference of a word and a constant; H kept (40 R217). -/
def subWord (a : Word16) (k : IMM6) (f : Flags) : Word16 × Flags :=
  let x : Word16 := a - k.setWidth 16
  let v := a.msb && !x.msb
  (x, { f with v := v, c := x.msb && !a.msb, n := x.msb, z := x == 0, s := x.msb ^^ v })

/-- The exact product of two numbers in 16 bits (40 R230 to R235). -/
def product (a b : Int) : Word16 := BitVec.ofInt 16 (a * b)

/-- The flags of MUL, MULS, MULSU: C is bit 15 of the product, Z tests it; the rest are kept (40 R230). -/
def mulFlags (p : Word16) (f : Flags) : Word16 × Flags :=
  (p, { f with c := p.msb, z := p == 0 })

/-- The fractional forms: C is bit 15 before the shift, Z tests the shifted result (40 R233). -/
def fmulFlags (p : Word16) (f : Flags) : Word16 × Flags :=
  let x := p <<< 1
  (x, { f with c := p.msb, z := x == 0 })

end Sys2Proof.Machine
end

