-- ==== Sys2Proof/Machine/Operands.lean ====
section
/-! DEFINITION. Operands: which register a field names (10 R38), the register pairs and pointers (10 R22, R23), and the
signed displacements (00 R14). -/

namespace Sys2Proof.Machine

/-- The register of a GPR field (10 R38). -/
def gpr (f : GPR) : Fin 32 := ⟨f.toNat, f.isLt⟩

/-- The register of an HGPR field: `16 + f` (10 R38). -/
def hgpr (f : HGPR) : Fin 32 := ⟨16 + f.toNat, by omega⟩

/-- The register of an MGPR field: `16 + f` (10 R38). -/
def mgpr (f : MGPR) : Fin 32 := ⟨16 + f.toNat, by omega⟩

/-- The pair of an EGPR field, low register `2 f`; pair `k` is `RP[2 k]` (10 R38, R22). -/
def egpr (f : EGPR) : Fin 16 := ⟨f.toNat, f.isLt⟩

/-- The pair of an RDL field, low register `24 + 2 f` (10 R38). -/
def rdl (f : RDL) : Fin 16 := ⟨12 + f.toNat, by omega⟩

/-- The low register of pair `k`, `R[2 k]` (10 R22). -/
def pairLow (k : Fin 16) : Fin 32 := ⟨2 * k.val, by omega⟩

/-- The high register of pair `k`, `R[2 k + 1]` (10 R22). -/
def pairHigh (k : Fin 16) : Fin 32 := ⟨2 * k.val + 1, by omega⟩

/-- The pointer pairs (10 R23). -/
inductive Ptr where
  | x
  | y
  | z
  deriving DecidableEq, Repr

/-- X = `RP[26]`, Y = `RP[28]`, Z = `RP[30]` (10 R23). -/
def Ptr.pair : Ptr → Fin 16
  | .x => 13
  | .y => 14
  | .z => 15

/-- The register is one half of the pointer (42 R311). -/
def Ptr.holds (p : Ptr) (d : Fin 32) : Bool := d == pairLow p.pair || d == pairHigh p.pair

/-- How reading a pointer operand updates it (42 R310). -/
inductive PtrMode where
  /-- `P`: returned, unchanged. -/
  | plain
  /-- `P+`: returned, then incremented. -/
  | postInc
  /-- `-P`: decremented, then returned. -/
  | preDec
  deriving DecidableEq, Repr

/-- The signed displacement, in words, of a branch (30 R112, R137; 00 R14). -/
def srel (k : SREL) : Int := k.toInt

/-- The signed displacement, in words, of RJMP and RCALL (30 R112, R135; 00 R14). -/
def lrel (k : LREL) : Int := k.toInt

end Sys2Proof.Machine
end

