-- ==== Sys2Proof/Machine/Timing.lean ====
section
/-! DEFINITION. The base cycle counts (70 R580). Timing only: no rule reads them. -/

namespace Sys2Proof.Machine

/-- The default of `CYC_BASE(m)`: the table of 70 R580; the six that only fault add nothing. -/
def cycDefault : Mnemonic → Nat
  | .add | .adc | .sub | .subi | .sbc | .sbci | .and | .andi | .or | .ori | .eor | .com | .neg | .inc | .dec
  | .cp | .cpc | .cpi | .mov | .movw | .ldi | .lsr | .asr | .ror | .swap | .bset | .bclr | .bst | .bld
  | .in_ | .out | .nop | .brbs | .brbc | .cpse | .sbrc | .sbrs | .sbic | .sbis => 1
  | .adiw | .sbiw | .mul | .muls | .mulsu | .fmul | .fmuls | .fmulsu | .sbi | .cbi
  | .ldX | .ldXp | .ldMx | .ldYp | .ldMy | .ldZp | .ldMz | .lddY | .lddZ | .lds
  | .stX | .stXp | .stMx | .stYp | .stMy | .stZp | .stMz | .stdY | .stdZ | .sts
  | .push | .pop | .rjmp | .ijmp => 2
  | .lpm | .lpmZ | .lpmZp | .elpm | .elpmZ | .elpmZp | .jmp | .rcall | .icall => 3
  | .call | .ret | .reti => 4
  | .break_ | .sleep | .spm | .wdr | .eijmp | .eicall => 0

end Sys2Proof.Machine

namespace Sys2Proof

/-- `CYC_BASE(m)` of a device (00 R11, 70 R580, log 11). -/
def Device.cycBase (d : Device) (m : Mnemonic) : Nat := (d.cycOverride.lookup m).getD (Machine.cycDefault m)

end Sys2Proof
end

