-- ==== Sys2Proof/Machine/Ops.lean ====
section
/-! DEFINITION. The named operations: sparse memories, registers and pairs, SREG and SP, the I/O region, the data space
(spec 20), program memory, pointer reads (42 R310), the stack (20 R76 to R78), the program-counter sequencer (spec 43)
and interrupt entry with its return (60 R520, R524). -/

namespace Sys2Proof.Machine

/-! ### Sparse memories -/

/-- The byte at an address of a memory. -/
def Memory.read (m : Memory) (a : Nat) : Byte :=
  match m with
  | [] => Memory.unlisted
  | cell :: rest => if cell.1 = a then cell.2 else Memory.read rest a

/-- Write one byte, keeping the canonical form: writing the unlisted byte removes the entry. -/
def Memory.write (m : Memory) (a : Nat) (v : Byte) : Memory :=
  match m with
  | [] => if v = Memory.unlisted then [] else [(a, v)]
  | cell :: rest =>
    if a < cell.1 then (if v = Memory.unlisted then cell :: rest else (a, v) :: cell :: rest)
    else if a = cell.1 then (if v = Memory.unlisted then rest else (a, v) :: rest)
    else cell :: Memory.write rest a v

/-! ### Registers, pairs, flags, stack pointer -/

/-- Read of general register `r` (10 R21). -/
def State.reg (s : State) (r : Fin 32) : Byte := s.regs[r.val]

/-- Write of general register `r` (10 R21). -/
def State.setReg (s : State) (r : Fin 32) (v : Byte) : State := { s with regs := s.regs.set r.val v }

/-- Pair `k`: the lower-numbered register is the low byte (10 R22). -/
def State.pair (s : State) (k : Fin 16) : Word16 := s.reg (pairHigh k) ++ s.reg (pairLow k)

/-- Write of pair `k` (10 R22). -/
def State.setPair (s : State) (k : Fin 16) (v : Word16) : State :=
  (s.setReg (pairLow k) (v.extractLsb' 0 8)).setReg (pairHigh k) (v.extractLsb' 8 8)

/-- The pointer X, Y or Z (10 R23). -/
def State.ptr (s : State) (p : Ptr) : Word16 := s.pair p.pair

/-- The packed status byte (10 R27). -/
def State.sreg (s : State) : Byte := s.flags.toByte

/-- `SP = SPH ++ SPL` (10 R29). -/
def State.sp (s : State) : Word16 := s.sph ++ s.spl

/-- Write of SP (10 R29). -/
def State.setSp (s : State) (v : Word16) : State := { s with spl := v.extractLsb' 0 8, sph := v.extractLsb' 8 8 }

/-- Write a register and the flags: how an ALU primitive's answer is kept. -/
def State.setAlu (s : State) (r : Fin 32) (out : Byte × Flags) : State :=
  { s.setReg r out.1 with flags := out.2 }

/-- Write a pair and the flags. -/
def State.setAluPair (s : State) (k : Fin 16) (out : Word16 × Flags) : State :=
  { s.setPair k out.1 with flags := out.2 }

/-- Write the flags alone (compares). -/
def State.setFlags (s : State) (f : Flags) : State := { s with flags := f }

/-- `enableInterrupts()`: `I <- 1` (60 R521). -/
def State.enableInterrupts (s : State) : State := { s with flags := { s.flags with i := true } }

/-- `disableInterrupts()`: `I <- 0` (60 R521). -/
def State.disableInterrupts (s : State) : State := { s with flags := { s.flags with i := false } }

/-- Add `CYC_BASE(m)` to the cycle counter (10 R31, 70 R580). -/
def State.charge (s : State) (m : Mnemonic) : State := { s with cycles := s.cycles + s.dev.cycBase m }

/-- Execute the instruction named `m` in state `s`: it faults before anything else when the device leaves it unimplemented
(60 R502; R507 point 4, log 20); else it has its effect, and a next state has the base cycles added (10 R31, R33). -/
def execute (m : Mnemonic) (s : State) (effect : Outcome) : Outcome :=
  if m ∈ s.dev.unimplSet then .fault (.unimplemented m)
  else
    match effect with
    | .next t => .next (t.charge m)
    | .fault e => .fault e
    | .refused r => .refused r

/-- Continue where an access succeeded; a fault ends the step with no effect (60 R500). -/
def andThen {α : Type} (r : Except Fault α) (k : α → Outcome) : Outcome :=
  match r with
  | .ok a => k a
  | .error e => .fault e

/-! ### The I/O region (20 R66, R67) -/

/-- `IoRead(i)`: SREG, SPL, SPH and RAMPZ are the core's; a plugged-in handler answers a free value and the call is
recorded; any other index is a storage byte (20 R66, 10 R32). -/
def State.ioRead (s : State) (i : Nat) : Byte × State :=
  if i = s.dev.sregIo then (s.sreg, s)
  else if i = s.dev.splIo then (s.spl, s)
  else if i = s.dev.sphIo then (s.sph, s)
  else if s.dev.hasRampz = true ∧ i = s.dev.rampzIo then (s.rampz, s)
  else if i ∈ s.dev.plugged then
    let v := Config.handlerAnswer s.ioTrace s.cycles i
    (v, { s with ioTrace := .read i v :: s.ioTrace })
  else (s.io.read i, s)

/-- `IoWrite(i, v)` (20 R67). -/
def State.ioWrite (s : State) (i : Nat) (v : Byte) : State :=
  if i = s.dev.sregIo then { s with flags := Flags.ofByte v }
  else if i = s.dev.splIo then { s with spl := v }
  else if i = s.dev.sphIo then { s with sph := v }
  else if s.dev.hasRampz = true ∧ i = s.dev.rampzIo then { s with rampz := v }
  else if i ∈ s.dev.plugged then { s with ioTrace := .write i v :: s.ioTrace }
  else { s with io := s.io.write i v }

/-! ### The data space (20 R61 to R63) -/

/-- `MemRead(a)` (20 R62). -/
def State.memRead (s : State) (a : Nat) : Except Fault (Byte × State) :=
  if h : a < 32 then .ok (s.reg ⟨a, h⟩, s)
  else if a < 32 + s.dev.nIo then .ok (s.ioRead (a - 32))
  else if a < s.dev.segSize then .ok (s.ram.read a, s)
  else .error (.outOfRange .dataRead a)

/-- `MemWrite(a, v)` (20 R63). -/
def State.memWrite (s : State) (a : Nat) (v : Byte) : Except Fault State :=
  if h : a < 32 then .ok (s.setReg ⟨a, h⟩ v)
  else if a < 32 + s.dev.nIo then .ok (s.ioWrite (a - 32) v)
  else if a < s.dev.segSize then .ok { s with ram := s.ram.write a v }
  else .error (.outOfRange .dataWrite a)

/-- The byte the core's state holds at I/O index `i`, with no handler called; none where a plugged-in handler holds it
(00 R15 item 6, 60 R531). -/
def State.ioPeek (s : State) (i : Nat) : Option Byte :=
  if i = s.dev.sregIo then some s.sreg
  else if i = s.dev.splIo then some s.spl
  else if i = s.dev.sphIo then some s.sph
  else if s.dev.hasRampz = true ∧ i = s.dev.rampzIo then some s.rampz
  else if i ∈ s.dev.plugged then none
  else some (s.io.read i)

/-- The state accessor of 00 R15 item 6: the byte the core's state holds at data address `a`, read with no side effect;
none outside the data space and where a plugged-in handler holds it. -/
def State.peek (s : State) (a : Nat) : Option Byte :=
  if h : a < 32 then some (s.reg ⟨a, h⟩)
  else if a < 32 + s.dev.nIo then s.ioPeek (a - 32)
  else if a < s.dev.segSize then some (s.ram.read a)
  else none

/-! ### Program memory (20 R72, R73) -/

/-- `Flash[a]` (20 R72). -/
def State.flashByte (s : State) (a : Nat) : Except Fault Byte :=
  if a < s.dev.flashBytes then .ok (s.flash.read a) else .error (.outOfRange .flashRead a)

/-- `Flash16(a)`: the byte at the lower address is the low byte (20 R73). -/
def State.flash16 (s : State) (a : Nat) : Except Fault Word16 :=
  if a + 1 < s.dev.flashBytes then .ok (s.flash.read (a + 1) ++ s.flash.read a) else .error (.outOfRange .fetch a)

/-! ### Pointer reads (42 R310) -/

/-- The 16-bit address a pointer operand yields, and the state after its update (42 R310). -/
def State.readPtr (s : State) (p : Ptr) (mode : PtrMode) : Word16 × State :=
  match mode with
  | .plain => (s.ptr p, s)
  | .postInc => (s.ptr p, s.setPair p.pair (s.ptr p + 1))
  | .preDec => (s.ptr p - 1, s.setPair p.pair (s.ptr p - 1))

/-- `ReadPtrQ(P, q)`: the sum is not reduced (42 R310, 92 D12). -/
def State.readPtrQ (s : State) (p : Ptr) (q : IMM6) : Nat := (s.ptr p).toNat + q.toNat

/-- The program-memory address of ELPM: RAMPZ above Z where RAMPZ exists, else Z alone (42 R350). -/
def State.elpmAddress (s : State) : Nat :=
  if s.dev.hasRampz then (s.rampz &&& s.dev.rampzMask).toNat * 2 ^ 16 + (s.ptr .z).toNat else (s.ptr .z).toNat

/-! ### The stack (20 R76 to R78) -/

/-- `Push(v)`: the address and the decrement come from SP before the store (20 R76, R78). -/
def State.push (s : State) (v : Byte) : Except Fault State :=
  match s.memWrite s.sp.toNat v with
  | .ok s1 => .ok (s1.setSp (s.sp - 1))
  | .error e => .error e

/-- `Pop()`: SP moves first, then the byte is read (20 R77). -/
def State.pop (s : State) : Except Fault (Byte × State) :=
  (s.setSp (s.sp + 1)).memRead (s.sp + 1).toNat

/-- `PushPC(a)`: the low byte of the word address, then the high byte (43 R381). -/
def State.pushPC (s : State) (a : Nat) : Except Fault State :=
  let w : Word16 := BitVec.ofNat 16 (a / 2)
  match s.push (w.extractLsb' 0 8) with
  | .ok s1 => s1.push (w.extractLsb' 8 8)
  | .error e => .error e

/-- `PopPC()`: the high byte, then the low byte; the word address doubled (43 R382). -/
def State.popPC (s : State) : Except Fault (Nat × State) :=
  match s.pop with
  | .ok (h, s1) =>
    match s1.pop with
    | .ok (l, s2) => .ok ((2 * (h ++ l).toNat) % s.dev.pcMod, s2)
    | .error e => .error e
  | .error e => .error e

/-! ### The sequencer (43 R420, R380) -/

/-- `nextpc <- t` (10 R25). -/
def State.jumpTo (s : State) (t : Nat) : State := { s with nextpc := t % s.dev.pcMod }

/-- `(nextpc + 2 k) mod 2^PC_BITS` (43 R383, R393). -/
def State.relTarget (s : State) (k : Int) : Nat := (((s.nextpc : Int) + 2 * k) % (s.dev.pcMod : Int)).toNat

/-- `Skip()`: past the instruction at `nextpc`, sized by its first word alone (43 R380). -/
def State.skip (s : State) : Except Fault State :=
  match s.flash16 s.nextpc with
  | .ok w =>
    if is4 w then .ok { s.jumpTo (s.nextpc + 4) with cycles := s.cycles + 2 }
    else .ok { s.jumpTo (s.nextpc + 2) with cycles := s.cycles + 1 }
  | .error e => .error e

/-! ### Interrupt entry and return (60 R520, R524) -/

/-- The default `IRQ_VECTOR(n)`: `4 n` (00 R11, 60 R520). The spec's default (92 D17, log 8). -/
def irqVector (n : Nat) : Nat := 4 * n

/-- `InvokeInterrupt(n)` for a vector map: between two steps the return address is pushed, I cleared and control goes to
the vector; a faulting push changes nothing (60 R520). The operation is total; its precondition `I = 1` is the driver's to
check, and `driverStep` checks it. -/
def State.invokeInterrupt (s : State) (vector : Nat → Nat) (n : Nat) : Outcome :=
  andThen (s.pushPC s.pc) fun s1 =>
    let s2 := s1.disableInterrupts.jumpTo (vector n)
    .next { s2 with pc := s2.nextpc, cycles := s2.cycles + 4 }

/-- The return from interrupt: `nextpc <- PopPC(); I <- 1` (60 R524, 43 R392). -/
def State.returnFromInterrupt (s : State) : Except Fault State :=
  match s.popPC with
  | .ok (t, s1) => .ok (s1.jumpTo t).enableInterrupts
  | .error e => .error e

end Sys2Proof.Machine
end

