-- ==== Sys2Proof/Machine/Arith.lean ====
section
/-! DEFINITION. Meanings of the arithmetic and logic instructions and their aliases (spec 40). Operands are read before
the destination is written (40 R206); each meaning adds its base cycles (70 R580), an alias those of its expansion. -/

namespace Sys2Proof.Machine

/-! ### Addition and subtraction -/

/-- ADD Rd, Rr: add without carry (40 R210). -/
def execAdd (d r : GPR) (s : State) : Outcome :=
  execute .add s (.next (s.setAlu (gpr d) (add8 (s.reg (gpr d)) (s.reg (gpr r)) false s.flags)))

/-- ADC Rd, Rr: add with carry (40 R211). -/
def execAdc (d r : GPR) (s : State) : Outcome :=
  execute .adc s (.next (s.setAlu (gpr d) (add8 (s.reg (gpr d)) (s.reg (gpr r)) s.flags.c s.flags)))

/-- ADIW Rd+1:Rd, K: add immediate to word (40 R212). -/
def execAdiw (d : RDL) (k : IMM6) (s : State) : Outcome :=
  execute .adiw s (.next (s.setAluPair (rdl d) (addWord (s.pair (rdl d)) k s.flags)))

/-- SUB Rd, Rr: subtract without carry (40 R213). -/
def execSub (d r : GPR) (s : State) : Outcome :=
  execute .sub s (.next (s.setAlu (gpr d) (sub8 (s.reg (gpr d)) (s.reg (gpr r)) false s.flags)))

/-- SUBI Rd, K: subtract immediate (40 R214). -/
def execSubi (d : HGPR) (k : IMM8) (s : State) : Outcome :=
  execute .subi s (.next (s.setAlu (hgpr d) (sub8 (s.reg (hgpr d)) k false s.flags)))

/-- SBC Rd, Rr: subtract with carry, Z ANDed with the old Z (40 R215). -/
def execSbc (d r : GPR) (s : State) : Outcome :=
  execute .sbc s (.next (s.setAlu (gpr d) (sub8pz (s.reg (gpr d)) (s.reg (gpr r)) s.flags.c s.flags)))

/-- SBCI Rd, K: subtract immediate with carry, Z ANDed with the old Z (40 R216). -/
def execSbci (d : HGPR) (k : IMM8) (s : State) : Outcome :=
  execute .sbci s (.next (s.setAlu (hgpr d) (sub8pz (s.reg (hgpr d)) k s.flags.c s.flags)))

/-- SBIW Rd+1:Rd, K: subtract immediate from word (40 R217). -/
def execSbiw (d : RDL) (k : IMM6) (s : State) : Outcome :=
  execute .sbiw s (.next (s.setAluPair (rdl d) (subWord (s.pair (rdl d)) k s.flags)))

/-! ### Logic -/

/-- AND Rd, Rr: bitwise and (40 R218). -/
def execAnd (d r : GPR) (s : State) : Outcome :=
  execute .and s (.next (s.setAlu (gpr d) (logic8 (s.reg (gpr d) &&& s.reg (gpr r)) s.flags)))

/-- ANDI Rd, K: and with immediate (40 R219). -/
def execAndi (d : HGPR) (k : IMM8) (s : State) : Outcome :=
  execute .andi s (.next (s.setAlu (hgpr d) (logic8 (s.reg (hgpr d) &&& k) s.flags)))

/-- OR Rd, Rr: bitwise or (40 R220). -/
def execOr (d r : GPR) (s : State) : Outcome :=
  execute .or s (.next (s.setAlu (gpr d) (logic8 (s.reg (gpr d) ||| s.reg (gpr r)) s.flags)))

/-- ORI Rd, K: or with immediate (40 R221). -/
def execOri (d : HGPR) (k : IMM8) (s : State) : Outcome :=
  execute .ori s (.next (s.setAlu (hgpr d) (logic8 (s.reg (hgpr d) ||| k) s.flags)))

/-- EOR Rd, Rr: bitwise exclusive or (40 R222). -/
def execEor (d r : GPR) (s : State) : Outcome :=
  execute .eor s (.next (s.setAlu (gpr d) (logic8 (s.reg (gpr d) ^^^ s.reg (gpr r)) s.flags)))

/-- COM Rd: one's complement, C set (40 R223). -/
def execCom (d : GPR) (s : State) : Outcome :=
  execute .com s (.next (s.setAlu (gpr d) (com8 (s.reg (gpr d)) s.flags)))

/-- NEG Rd: two's complement (40 R224). -/
def execNeg (d : GPR) (s : State) : Outcome :=
  execute .neg s (.next (s.setAlu (gpr d) (sub8 0 (s.reg (gpr d)) false s.flags)))

/-! ### Increment and decrement -/

/-- INC Rd: increment, C and H kept (40 R225). -/
def execInc (d : GPR) (s : State) : Outcome :=
  execute .inc s (.next (s.setAlu (gpr d) (inc8 (s.reg (gpr d)) s.flags)))

/-- DEC Rd: decrement, C and H kept (40 R226). -/
def execDec (d : GPR) (s : State) : Outcome :=
  execute .dec s (.next (s.setAlu (gpr d) (dec8 (s.reg (gpr d)) s.flags)))

/-! ### Compare: flags only -/

/-- CP Rd, Rr: compare (40 R227). -/
def execCp (d r : GPR) (s : State) : Outcome :=
  execute .cp s (.next (s.setFlags (sub8 (s.reg (gpr d)) (s.reg (gpr r)) false s.flags).2))

/-- CPC Rd, Rr: compare with carry, Z ANDed with the old Z (40 R228). -/
def execCpc (d r : GPR) (s : State) : Outcome :=
  execute .cpc s (.next (s.setFlags (sub8pz (s.reg (gpr d)) (s.reg (gpr r)) s.flags.c s.flags).2))

/-- CPI Rd, K: compare with immediate (40 R229). -/
def execCpi (d : HGPR) (k : IMM8) (s : State) : Outcome :=
  execute .cpi s (.next (s.setFlags (sub8 (s.reg (hgpr d)) k false s.flags).2))

/-! ### Multiply: the product in r1:r0 -/

/-- MUL Rd, Rr: multiply unsigned (40 R230). -/
def execMul (d r : GPR) (s : State) : Outcome :=
  execute .mul s (.next (s.setAluPair 0 (mulFlags (product (s.reg (gpr d)).toNat (s.reg (gpr r)).toNat) s.flags)))

/-- MULS Rd, Rr: multiply signed (40 R231). -/
def execMuls (d r : HGPR) (s : State) : Outcome :=
  execute .muls s (.next (s.setAluPair 0 (mulFlags (product (s.reg (hgpr d)).toInt (s.reg (hgpr r)).toInt) s.flags)))

/-- MULSU Rd, Rr: multiply signed with unsigned (40 R232). -/
def execMulsu (d r : MGPR) (s : State) : Outcome :=
  execute .mulsu s (.next (s.setAluPair 0 (mulFlags (product (s.reg (mgpr d)).toInt (s.reg (mgpr r)).toNat) s.flags)))

/-- FMUL Rd, Rr: fractional multiply unsigned (40 R233). -/
def execFmul (d r : MGPR) (s : State) : Outcome :=
  execute .fmul s (.next (s.setAluPair 0 (fmulFlags (product (s.reg (mgpr d)).toNat (s.reg (mgpr r)).toNat) s.flags)))

/-- FMULS Rd, Rr: fractional multiply signed (40 R234). -/
def execFmuls (d r : MGPR) (s : State) : Outcome :=
  execute .fmuls s (.next (s.setAluPair 0 (fmulFlags (product (s.reg (mgpr d)).toInt (s.reg (mgpr r)).toInt) s.flags)))

/-- FMULSU Rd, Rr: fractional multiply signed with unsigned (40 R235). -/
def execFmulsu (d r : MGPR) (s : State) : Outcome :=
  execute .fmulsu s (.next (s.setAluPair 0 (fmulFlags (product (s.reg (mgpr d)).toInt (s.reg (mgpr r)).toNat) s.flags)))

/-! ### Aliases of this family -/

/-- TST Rd: test for zero or minus, the effect of `AND Rd, Rd` (40 R236). -/
def execTst (d : GPR) (s : State) : Outcome :=
  execute .and s (.next (s.setAlu (gpr d) (logic8 (s.reg (gpr d) &&& s.reg (gpr d)) s.flags)))

/-- CLR Rd: clear register, the effect of `EOR Rd, Rd` (40 R237). -/
def execClr (d : GPR) (s : State) : Outcome :=
  execute .eor s (.next (s.setAlu (gpr d) (logic8 0 s.flags)))

/-- SER Rd: set register, the effect of `LDI Rd, 0xFF` (40 R238). -/
def execSer (d : HGPR) (s : State) : Outcome :=
  execute .ldi s (.next (s.setReg (hgpr d) 0xFF))

/-- SBR Rd, K: set bits in register, the effect of `ORI Rd, K` (40 R239). -/
def execSbr (d : HGPR) (k : IMM8) (s : State) : Outcome :=
  execute .ori s (.next (s.setAlu (hgpr d) (logic8 (s.reg (hgpr d) ||| k) s.flags)))

/-- CBR Rd, K: clear the bits set in K, the effect of `ANDI Rd, 0xFF - K` (40 R240). -/
def execCbr (d : HGPR) (k : IMM8) (s : State) : Outcome :=
  execute .andi s (.next (s.setAlu (hgpr d) (logic8 (s.reg (hgpr d) &&& ~~~k) s.flags)))

/-- LSL Rd: logical shift left, the effect of `ADD Rd, Rd` (40 R241). -/
def execLsl (d : GPR) (s : State) : Outcome :=
  execute .add s (.next (s.setAlu (gpr d) (shiftLeft8 (s.reg (gpr d)) false s.flags)))

/-- ROL Rd: rotate left through carry, the effect of `ADC Rd, Rd` (40 R242). -/
def execRol (d : GPR) (s : State) : Outcome :=
  execute .adc s (.next (s.setAlu (gpr d) (shiftLeft8 (s.reg (gpr d)) s.flags.c s.flags)))

end Sys2Proof.Machine
end

