-- ==== Sys2Proof/Machine/Control.lean ====
section
/-! DEFINITION. Meanings of the control transfer instructions and their aliases (spec 43). On entry `nextpc` is
`(pc + size) mod 2^PC_BITS` (43 R420); a transfer overwrites it. -/

namespace Sys2Proof.Machine

/-! ### Shared shapes -/

/-- A call: push `nextpc`, then go to `target` (43 R387 to R390). -/
def callTo (target : Nat) (s : State) : Outcome :=
  andThen (s.pushPC s.nextpc) fun s1 => .next (s1.jumpTo target)

/-- A conditional branch: one extra cycle when taken (43 R393, R394; 70 R581). -/
def branchIf (taken : Bool) (k : SREL) (s : State) : Outcome :=
  if taken then .next { s.jumpTo (s.relTarget (srel k)) with cycles := s.cycles + 1 }
  else .next s

/-- A skip instruction: `Skip()` when the condition holds (43, section 5). -/
def skipIf (taken : Bool) (s : State) : Outcome :=
  if taken then andThen s.skip .next
  else .next s

/-! ### Jumps -/

/-- RJMP k: relative jump (43 R383). -/
def execRjmp (k : LREL) (s : State) : Outcome :=
  execute .rjmp s (.next (s.jumpTo (s.relTarget (lrel k))))

/-- IJMP: indirect jump, Z is a word address (43 R384). -/
def execIjmp (s : State) : Outcome :=
  execute .ijmp s (.next (s.jumpTo (2 * (s.ptr .z).toNat)))

/-- EIJMP: EIND is not in the hardware in scope, it faults (60 R502) (43 R385). -/
def execEijmp (s : State) : Outcome :=
  execute .eijmp s (.fault (.unsupplied .eijmp))

/-- JMP k: absolute jump (43 R386). -/
def execJmp (k : PADDR) (s : State) : Outcome :=
  execute .jmp s (.next (s.jumpTo (2 * k.toNat)))

/-! ### Calls and returns -/

/-- RCALL k: relative call (43 R387). -/
def execRcall (k : LREL) (s : State) : Outcome :=
  execute .rcall s (callTo (s.relTarget (lrel k)) s)

/-- ICALL: indirect call (43 R388). -/
def execIcall (s : State) : Outcome :=
  execute .icall s (callTo (2 * (s.ptr .z).toNat) s)

/-- EICALL: EIND is not in the hardware in scope, it faults (60 R502) (43 R389). -/
def execEicall (s : State) : Outcome :=
  execute .eicall s (.fault (.unsupplied .eicall))

/-- CALL k: absolute call (43 R390). -/
def execCall (k : PADDR) (s : State) : Outcome :=
  execute .call s (callTo (2 * k.toNat) s)

/-- RET: return (43 R391). -/
def execRet (s : State) : Outcome :=
  execute .ret s (andThen s.popPC fun got => .next (got.2.jumpTo got.1))

/-- RETI: return from interrupt (43 R392). -/
def execReti (s : State) : Outcome :=
  execute .reti s (andThen s.returnFromInterrupt .next)

/-! ### Conditional branches -/

/-- BRBS s, k: branch if status bit set (43 R393). -/
def execBrbs (b : IMM3) (k : SREL) (s : State) : Outcome :=
  execute .brbs s (branchIf (s.flags.bit b) k s)

/-- BRBC s, k: branch if status bit clear (43 R394). -/
def execBrbc (b : IMM3) (k : SREL) (s : State) : Outcome :=
  execute .brbc s (branchIf (!s.flags.bit b) k s)

/-- BRCS k: taken when C = 1 (43 R400). -/
def execBrcs (k : SREL) (s : State) : Outcome :=
  execute .brbs s (branchIf s.flags.c k s)

/-- BRLO k: taken when C = 1 (43 R401). -/
def execBrlo (k : SREL) (s : State) : Outcome :=
  execute .brbs s (branchIf s.flags.c k s)

/-- BREQ k: taken when Z = 1 (43 R402). -/
def execBreq (k : SREL) (s : State) : Outcome :=
  execute .brbs s (branchIf s.flags.z k s)

/-- BRMI k: taken when N = 1 (43 R403). -/
def execBrmi (k : SREL) (s : State) : Outcome :=
  execute .brbs s (branchIf s.flags.n k s)

/-- BRVS k: taken when V = 1 (43 R404). -/
def execBrvs (k : SREL) (s : State) : Outcome :=
  execute .brbs s (branchIf s.flags.v k s)

/-- BRLT k: taken when S = 1 (43 R405). -/
def execBrlt (k : SREL) (s : State) : Outcome :=
  execute .brbs s (branchIf s.flags.s k s)

/-- BRHS k: taken when H = 1 (43 R406). -/
def execBrhs (k : SREL) (s : State) : Outcome :=
  execute .brbs s (branchIf s.flags.h k s)

/-- BRTS k: taken when T = 1 (43 R407). -/
def execBrts (k : SREL) (s : State) : Outcome :=
  execute .brbs s (branchIf s.flags.t k s)

/-- BRIE k: taken when I = 1 (43 R408). -/
def execBrie (k : SREL) (s : State) : Outcome :=
  execute .brbs s (branchIf s.flags.i k s)

/-- BRCC k: taken when C = 0 (43 R409). -/
def execBrcc (k : SREL) (s : State) : Outcome :=
  execute .brbc s (branchIf (!s.flags.c) k s)

/-- BRSH k: taken when C = 0 (43 R410). -/
def execBrsh (k : SREL) (s : State) : Outcome :=
  execute .brbc s (branchIf (!s.flags.c) k s)

/-- BRNE k: taken when Z = 0 (43 R411). -/
def execBrne (k : SREL) (s : State) : Outcome :=
  execute .brbc s (branchIf (!s.flags.z) k s)

/-- BRPL k: taken when N = 0 (43 R412). -/
def execBrpl (k : SREL) (s : State) : Outcome :=
  execute .brbc s (branchIf (!s.flags.n) k s)

/-- BRVC k: taken when V = 0 (43 R413). -/
def execBrvc (k : SREL) (s : State) : Outcome :=
  execute .brbc s (branchIf (!s.flags.v) k s)

/-- BRGE k: taken when S = 0 (43 R414). -/
def execBrge (k : SREL) (s : State) : Outcome :=
  execute .brbc s (branchIf (!s.flags.s) k s)

/-- BRHC k: taken when H = 0 (43 R415). -/
def execBrhc (k : SREL) (s : State) : Outcome :=
  execute .brbc s (branchIf (!s.flags.h) k s)

/-- BRTC k: taken when T = 0 (43 R416). -/
def execBrtc (k : SREL) (s : State) : Outcome :=
  execute .brbc s (branchIf (!s.flags.t) k s)

/-- BRID k: taken when I = 0 (43 R417). -/
def execBrid (k : SREL) (s : State) : Outcome :=
  execute .brbc s (branchIf (!s.flags.i) k s)

/-! ### Skips -/

/-- CPSE Rd, Rr: compare, skip if equal; no flag (43 R395). -/
def execCpse (d r : GPR) (s : State) : Outcome :=
  execute .cpse s (skipIf (s.reg (gpr d) == s.reg (gpr r)) s)

/-- SBRC Rr, b: skip if bit in register clear (43 R396). -/
def execSbrc (r : GPR) (b : IMM3) (s : State) : Outcome :=
  execute .sbrc s (skipIf (!(s.reg (gpr r)).getLsbD b.toNat) s)

/-- SBRS Rr, b: skip if bit in register set (43 R397). -/
def execSbrs (r : GPR) (b : IMM3) (s : State) : Outcome :=
  execute .sbrs s (skipIf ((s.reg (gpr r)).getLsbD b.toNat) s)

/-- SBIC A, b: skip if bit in I/O register clear, one handler read (43 R398). -/
def execSbic (a : IMM5) (b : IMM3) (s : State) : Outcome :=
  execute .sbic s (skipIf (!(s.ioRead a.toNat).1.getLsbD b.toNat) (s.ioRead a.toNat).2)

/-- SBIS A, b: skip if bit in I/O register set, one handler read (43 R399). -/
def execSbis (a : IMM5) (b : IMM3) (s : State) : Outcome :=
  execute .sbis s (skipIf ((s.ioRead a.toNat).1.getLsbD b.toNat) (s.ioRead a.toNat).2)

end Sys2Proof.Machine
end

