-- ==== Sys2Proof/Machine/Mcu.lean ====
section
/-! DEFINITION. Meanings of the MCU control instructions (spec 44). -/

namespace Sys2Proof.Machine

/-- NOP: no operation (44 R451). -/
def execNop (s : State) : Outcome :=
  execute .nop s (.next s)

/-- SLEEP: no sleep controller in the hardware in scope, it faults (60 R502) (44 R452). -/
def execSleep (s : State) : Outcome :=
  execute .sleep s (.fault (.unsupplied .sleep))

/-- WDR: no watchdog in the hardware in scope, it faults (60 R502) (44 R453). -/
def execWdr (s : State) : Outcome :=
  execute .wdr s (.fault (.unsupplied .wdr))

/-- BREAK: no debug unit in the hardware in scope, it faults (60 R502) (44 R454). -/
def execBreak (s : State) : Outcome :=
  execute .break_ s (.fault (.unsupplied .break_))

end Sys2Proof.Machine
end

