-- ==== Sys2Proof/Machine/ShiftBit.lean ====
section
/-! DEFINITION. Meanings of the shift, bit and flag instructions and their aliases (spec 41). -/

namespace Sys2Proof.Machine

/-! ### Shifts, rotates, swap -/

/-- LSR Rd: logical shift right (41 R262). -/
def execLsr (d : GPR) (s : State) : Outcome :=
  execute .lsr s (.next (s.setAlu (gpr d) (shiftRight8 (s.reg (gpr d)) false s.flags)))

/-- ASR Rd: arithmetic shift right, bit 7 kept (41 R263). -/
def execAsr (d : GPR) (s : State) : Outcome :=
  execute .asr s (.next (s.setAlu (gpr d) (shiftRight8 (s.reg (gpr d)) ((s.reg (gpr d)).getLsbD 7) s.flags)))

/-- ROR Rd: rotate right through carry (41 R264). -/
def execRor (d : GPR) (s : State) : Outcome :=
  execute .ror s (.next (s.setAlu (gpr d) (shiftRight8 (s.reg (gpr d)) s.flags.c s.flags)))

/-- SWAP Rd: swap nibbles, no flag (41 R265). -/
def execSwap (d : GPR) (s : State) : Outcome :=
  execute .swap s (.next (s.setReg (gpr d) ((s.reg (gpr d)).extractLsb' 0 4 ++ (s.reg (gpr d)).extractLsb' 4 4)))

/-! ### Status-register bits -/

/-- BSET s: set one flag (41 R266). -/
def execBset (b : IMM3) (s : State) : Outcome :=
  execute .bset s (.next (s.setFlags (s.flags.setBit b true)))

/-- BCLR s: clear one flag (41 R267). -/
def execBclr (b : IMM3) (s : State) : Outcome :=
  execute .bclr s (.next (s.setFlags (s.flags.setBit b false)))

/-- SEC: `C <- 1` (41 R272). -/
def execSec (s : State) : Outcome :=
  execute .bset s (.next (s.setFlags { s.flags with c := true }))

/-- SEZ: `Z <- 1` (41 R273). -/
def execSez (s : State) : Outcome :=
  execute .bset s (.next (s.setFlags { s.flags with z := true }))

/-- SEN: `N <- 1` (41 R274). -/
def execSen (s : State) : Outcome :=
  execute .bset s (.next (s.setFlags { s.flags with n := true }))

/-- SEV: `V <- 1` (41 R275). -/
def execSev (s : State) : Outcome :=
  execute .bset s (.next (s.setFlags { s.flags with v := true }))

/-- SES: `S <- 1` (41 R276). -/
def execSes (s : State) : Outcome :=
  execute .bset s (.next (s.setFlags { s.flags with s := true }))

/-- SEH: `H <- 1` (41 R277). -/
def execSeh (s : State) : Outcome :=
  execute .bset s (.next (s.setFlags { s.flags with h := true }))

/-- SET: `T <- 1` (41 R278). -/
def execSet (s : State) : Outcome :=
  execute .bset s (.next (s.setFlags { s.flags with t := true }))

/-- SEI: `I <- 1`, the source's `enableInterrupts()` (41 R279). -/
def execSei (s : State) : Outcome :=
  execute .bset s (.next s.enableInterrupts)

/-- CLC: `C <- 0` (41 R280). -/
def execClc (s : State) : Outcome :=
  execute .bclr s (.next (s.setFlags { s.flags with c := false }))

/-- CLZ: `Z <- 0` (41 R281). -/
def execClz (s : State) : Outcome :=
  execute .bclr s (.next (s.setFlags { s.flags with z := false }))

/-- CLN: `N <- 0` (41 R282). -/
def execCln (s : State) : Outcome :=
  execute .bclr s (.next (s.setFlags { s.flags with n := false }))

/-- CLV: `V <- 0` (41 R283). -/
def execClv (s : State) : Outcome :=
  execute .bclr s (.next (s.setFlags { s.flags with v := false }))

/-- CLS: `S <- 0` (41 R284). -/
def execCls (s : State) : Outcome :=
  execute .bclr s (.next (s.setFlags { s.flags with s := false }))

/-- CLH: `H <- 0` (41 R285). -/
def execClh (s : State) : Outcome :=
  execute .bclr s (.next (s.setFlags { s.flags with h := false }))

/-- CLT: `T <- 0` (41 R286). -/
def execClt (s : State) : Outcome :=
  execute .bclr s (.next (s.setFlags { s.flags with t := false }))

/-- CLI: `I <- 0`, the source's `disableInterrupts()` (41 R287). -/
def execCli (s : State) : Outcome :=
  execute .bclr s (.next s.disableInterrupts)

/-! ### The transfer bit -/

/-- A byte with bit `b` written and the other seven kept. -/
def writeBit (v : Byte) (b : IMM3) (value : Bool) : Byte :=
  if value then v ||| (1#8 <<< b.toNat) else v &&& ~~~(1#8 <<< b.toNat)

/-- BST Rd, b: bit store to T (41 R268). -/
def execBst (d : GPR) (b : IMM3) (s : State) : Outcome :=
  execute .bst s (.next (s.setFlags { s.flags with t := (s.reg (gpr d)).getLsbD b.toNat }))

/-- BLD Rd, b: bit load from T (41 R269). -/
def execBld (d : GPR) (b : IMM3) (s : State) : Outcome :=
  execute .bld s (.next (s.setReg (gpr d) (writeBit (s.reg (gpr d)) b s.flags.t)))

/-! ### I/O register bits: one read, then one write, of the same index (41 R270, 20 R86) -/

/-- Read I/O index `a`, write it back with bit `b` written. -/
def ioUpdateBit (a : IMM5) (b : IMM3) (value : Bool) (s : State) : State :=
  let got := s.ioRead a.toNat
  got.2.ioWrite a.toNat (writeBit got.1 b value)

/-- SBI A, b: set bit in I/O register (41 R270). -/
def execSbi (a : IMM5) (b : IMM3) (s : State) : Outcome :=
  execute .sbi s (.next (ioUpdateBit a b true s))

/-- CBI A, b: clear bit in I/O register (41 R271). -/
def execCbi (a : IMM5) (b : IMM3) (s : State) : Outcome :=
  execute .cbi s (.next (ioUpdateBit a b false s))

end Sys2Proof.Machine
end

