-- ==== Sys2Proof/Machine/Transfer.lean ====
section
/-! DEFINITION. Meanings of the data transfer instructions and their aliases (spec 42). No instruction of this file writes a
flag but by storing to the data address of SREG. An access out of range faults and keeps nothing (42 R352). -/

namespace Sys2Proof.Machine

/-! ### Shared shapes -/

/-- `R[d] <- MemRead(ea)` in state `s` (42, section 3). -/
def loadFrom (d : Fin 32) (ea : Nat) (s : State) : Outcome :=
  andThen (s.memRead ea) fun got => .next (got.2.setReg d got.1)

/-- `MemWrite(ea, v)` in state `s` (42, section 4). -/
def storeTo (v : Byte) (ea : Nat) (s : State) : Outcome :=
  andThen (s.memWrite ea v) .next

/-- A load that updates its pointer: the overlap check comes first, then the pointer is read and written back, then the
byte is read (42 R310, R311). -/
def loadUpdating (m : Mnemonic) (p : Ptr) (mode : PtrMode) (d : Fin 32) (s : State) : Outcome :=
  if p.holds d then .fault (.unpredictable m)
  else loadFrom d (s.readPtr p mode).1.toNat (s.readPtr p mode).2

/-- A store that updates its pointer: the value is read before the pointer is updated (42, section 4; R310, R311). -/
def storeUpdating (m : Mnemonic) (p : Ptr) (mode : PtrMode) (r : Fin 32) (s : State) : Outcome :=
  if p.holds r then .fault (.unpredictable m)
  else storeTo (s.reg r) (s.readPtr p mode).1.toNat (s.readPtr p mode).2

/-- `R[d] <- Flash[pa]` in state `s` (42 R350). -/
def loadFlash (d : Fin 32) (pa : Nat) (s : State) : Outcome :=
  andThen (s.flashByte pa) fun v => .next (s.setReg d v)

/-- The post-increment forms of LPM and ELPM: the address comes from Z before the update, RAMPZ is kept (42 R351). -/
def loadFlashUpdating (m : Mnemonic) (d : Fin 32) (pa : Nat) (s : State) : Outcome :=
  if Ptr.z.holds d then .fault (.unpredictable m)
  else loadFlash d pa (s.readPtr .z .postInc).2

/-! ### Register moves and immediates -/

/-- MOV Rd, Rr: copy register (42 R312). -/
def execMov (d r : GPR) (s : State) : Outcome :=
  execute .mov s (.next (s.setReg (gpr d) (s.reg (gpr r))))

/-- MOVW Rd+1:Rd, Rr+1:Rr: copy register pair (42 R313). -/
def execMovw (d r : EGPR) (s : State) : Outcome :=
  execute .movw s (.next (s.setPair (egpr d) (s.pair (egpr r))))

/-- LDI Rd, K: load immediate (42 R314). -/
def execLdi (d : HGPR) (k : IMM8) (s : State) : Outcome :=
  execute .ldi s (.next (s.setReg (hgpr d) k))

/-! ### Loads from the data space -/

/-- LD Rd, X: load through X (42 R315). -/
def execLdX (d : GPR) (s : State) : Outcome :=
  execute .ldX s (loadFrom (gpr d) (s.ptr .x).toNat s)

/-- LD Rd, X+: load through X, post-increment (42 R316). -/
def execLdXp (d : GPR) (s : State) : Outcome :=
  execute .ldXp s (loadUpdating .ldXp .x .postInc (gpr d) s)

/-- LD Rd, -X: load through X, pre-decrement (42 R317). -/
def execLdMx (d : GPR) (s : State) : Outcome :=
  execute .ldMx s (loadUpdating .ldMx .x .preDec (gpr d) s)

/-- LD Rd, Y+: load through Y, post-increment (42 R318). -/
def execLdYp (d : GPR) (s : State) : Outcome :=
  execute .ldYp s (loadUpdating .ldYp .y .postInc (gpr d) s)

/-- LD Rd, -Y: load through Y, pre-decrement (42 R319). -/
def execLdMy (d : GPR) (s : State) : Outcome :=
  execute .ldMy s (loadUpdating .ldMy .y .preDec (gpr d) s)

/-- LD Rd, Z+: load through Z, post-increment (42 R320). -/
def execLdZp (d : GPR) (s : State) : Outcome :=
  execute .ldZp s (loadUpdating .ldZp .z .postInc (gpr d) s)

/-- LD Rd, -Z: load through Z, pre-decrement (42 R321). -/
def execLdMz (d : GPR) (s : State) : Outcome :=
  execute .ldMz s (loadUpdating .ldMz .z .preDec (gpr d) s)

/-- LDD Rd, Y+q: load with displacement (42 R322). -/
def execLddY (d : GPR) (q : IMM6) (s : State) : Outcome :=
  execute .lddY s (loadFrom (gpr d) (s.readPtrQ .y q) s)

/-- LD Rd, Y: the effect of `LDD Rd, Y+0` (42 R346). -/
def execLdY (d : GPR) (s : State) : Outcome :=
  execute .lddY s (loadFrom (gpr d) (s.ptr .y).toNat s)

/-- LDD Rd, Z+q: load with displacement (42 R323). -/
def execLddZ (d : GPR) (q : IMM6) (s : State) : Outcome :=
  execute .lddZ s (loadFrom (gpr d) (s.readPtrQ .z q) s)

/-- LD Rd, Z: the effect of `LDD Rd, Z+0` (42 R347). -/
def execLdZ (d : GPR) (s : State) : Outcome :=
  execute .lddZ s (loadFrom (gpr d) (s.ptr .z).toNat s)

/-- LDS Rd, k: load direct (42 R324). -/
def execLds (d : GPR) (k : DADDR) (s : State) : Outcome :=
  execute .lds s (loadFrom (gpr d) k.toNat s)

/-! ### Stores to the data space -/

/-- ST X, Rr: store through X (42 R325). -/
def execStX (r : GPR) (s : State) : Outcome :=
  execute .stX s (storeTo (s.reg (gpr r)) (s.ptr .x).toNat s)

/-- ST X+, Rr: store through X, post-increment (42 R326). -/
def execStXp (r : GPR) (s : State) : Outcome :=
  execute .stXp s (storeUpdating .stXp .x .postInc (gpr r) s)

/-- ST -X, Rr: store through X, pre-decrement (42 R327). -/
def execStMx (r : GPR) (s : State) : Outcome :=
  execute .stMx s (storeUpdating .stMx .x .preDec (gpr r) s)

/-- ST Y+, Rr: store through Y, post-increment (42 R328). -/
def execStYp (r : GPR) (s : State) : Outcome :=
  execute .stYp s (storeUpdating .stYp .y .postInc (gpr r) s)

/-- ST -Y, Rr: store through Y, pre-decrement (42 R329). -/
def execStMy (r : GPR) (s : State) : Outcome :=
  execute .stMy s (storeUpdating .stMy .y .preDec (gpr r) s)

/-- ST Z+, Rr: store through Z, post-increment (42 R330). -/
def execStZp (r : GPR) (s : State) : Outcome :=
  execute .stZp s (storeUpdating .stZp .z .postInc (gpr r) s)

/-- ST -Z, Rr: store through Z, pre-decrement (42 R331). -/
def execStMz (r : GPR) (s : State) : Outcome :=
  execute .stMz s (storeUpdating .stMz .z .preDec (gpr r) s)

/-- STD Y+q, Rr: store with displacement (42 R332). -/
def execStdY (q : IMM6) (r : GPR) (s : State) : Outcome :=
  execute .stdY s (storeTo (s.reg (gpr r)) (s.readPtrQ .y q) s)

/-- ST Y, Rr: the effect of `STD Y+0, Rr` (42 R348). -/
def execStY (r : GPR) (s : State) : Outcome :=
  execute .stdY s (storeTo (s.reg (gpr r)) (s.ptr .y).toNat s)

/-- STD Z+q, Rr: store with displacement (42 R333). -/
def execStdZ (q : IMM6) (r : GPR) (s : State) : Outcome :=
  execute .stdZ s (storeTo (s.reg (gpr r)) (s.readPtrQ .z q) s)

/-- ST Z, Rr: the effect of `STD Z+0, Rr` (42 R349). -/
def execStZ (r : GPR) (s : State) : Outcome :=
  execute .stdZ s (storeTo (s.reg (gpr r)) (s.ptr .z).toNat s)

/-- STS k, Rr: store direct (42 R334). -/
def execSts (k : DADDR) (r : GPR) (s : State) : Outcome :=
  execute .sts s (storeTo (s.reg (gpr r)) k.toNat s)

/-! ### Program-memory reads -/

/-- LPM: load program memory to r0 (42 R335). -/
def execLpm (s : State) : Outcome :=
  execute .lpm s (loadFlash 0 (s.ptr .z).toNat s)

/-- LPM Rd, Z: load program memory (42 R336). -/
def execLpmZ (d : GPR) (s : State) : Outcome :=
  execute .lpmZ s (loadFlash (gpr d) (s.ptr .z).toNat s)

/-- LPM Rd, Z+: load program memory, post-increment (42 R337). -/
def execLpmZp (d : GPR) (s : State) : Outcome :=
  execute .lpmZp s (loadFlashUpdating .lpmZp (gpr d) (s.ptr .z).toNat s)

/-- ELPM: extended load program memory to r0 (42 R338). -/
def execElpm (s : State) : Outcome :=
  execute .elpm s (loadFlash 0 s.elpmAddress s)

/-- ELPM Rd, Z: extended load program memory (42 R339). -/
def execElpmZ (d : GPR) (s : State) : Outcome :=
  execute .elpmZ s (loadFlash (gpr d) s.elpmAddress s)

/-- ELPM Rd, Z+: extended load program memory, post-increment, RAMPZ kept (42 R340). -/
def execElpmZp (d : GPR) (s : State) : Outcome :=
  execute .elpmZp s (loadFlashUpdating .elpmZp (gpr d) s.elpmAddress s)

/-- SPM: store program memory; not in the hardware in scope, it faults (60 R502) (42 R341). -/
def execSpm (s : State) : Outcome :=
  execute .spm s (.fault (.unsupplied .spm))

/-! ### I/O and stack transfers -/

/-- IN Rd, A: read I/O register, one handler read (42 R342). -/
def execIn (d : GPR) (a : IMM6) (s : State) : Outcome :=
  execute .in_ s (.next ((s.ioRead a.toNat).2.setReg (gpr d) (s.ioRead a.toNat).1))

/-- OUT A, Rr: write I/O register, one handler write (42 R343). -/
def execOut (a : IMM6) (r : GPR) (s : State) : Outcome :=
  execute .out s (.next (s.ioWrite a.toNat (s.reg (gpr r))))

/-- PUSH Rr: push register (42 R344). -/
def execPush (r : GPR) (s : State) : Outcome :=
  execute .push s (andThen (s.push (s.reg (gpr r))) .next)

/-- POP Rd: pop register (42 R345). -/
def execPop (d : GPR) (s : State) : Outcome :=
  execute .pop s (andThen s.pop fun got => .next (got.2.setReg (gpr d) got.1))

end Sys2Proof.Machine
end

