-- ==== Sys2Proof/Machine/Dispatch.lean ====
section
/-! DEFINITION. Dispatch: one arm per constructor of Instr. -/

namespace Sys2Proof.Machine

def exec (i : Instr) (s : State) : Host.Outcome State Fault Refusal :=
  match i with
  | .add d r => Sys2Proof.Machine.execAdd d r s
  | .adc d r => Sys2Proof.Machine.execAdc d r s
  | .adiw d k => Sys2Proof.Machine.execAdiw d k s
  | .sub d r => Sys2Proof.Machine.execSub d r s
  | .subi d k => Sys2Proof.Machine.execSubi d k s
  | .sbc d r => Sys2Proof.Machine.execSbc d r s
  | .sbci d k => Sys2Proof.Machine.execSbci d k s
  | .sbiw d k => Sys2Proof.Machine.execSbiw d k s
  | .and d r => Sys2Proof.Machine.execAnd d r s
  | .andi d k => Sys2Proof.Machine.execAndi d k s
  | .or d r => Sys2Proof.Machine.execOr d r s
  | .ori d k => Sys2Proof.Machine.execOri d k s
  | .eor d r => Sys2Proof.Machine.execEor d r s
  | .com d => Sys2Proof.Machine.execCom d s
  | .neg d => Sys2Proof.Machine.execNeg d s
  | .inc d => Sys2Proof.Machine.execInc d s
  | .dec d => Sys2Proof.Machine.execDec d s
  | .cp d r => Sys2Proof.Machine.execCp d r s
  | .cpc d r => Sys2Proof.Machine.execCpc d r s
  | .cpi d k => Sys2Proof.Machine.execCpi d k s
  | .mul d r => Sys2Proof.Machine.execMul d r s
  | .muls d r => Sys2Proof.Machine.execMuls d r s
  | .mulsu d r => Sys2Proof.Machine.execMulsu d r s
  | .fmul d r => Sys2Proof.Machine.execFmul d r s
  | .fmuls d r => Sys2Proof.Machine.execFmuls d r s
  | .fmulsu d r => Sys2Proof.Machine.execFmulsu d r s
  | .tst d => Sys2Proof.Machine.execTst d s
  | .clr d => Sys2Proof.Machine.execClr d s
  | .ser d => Sys2Proof.Machine.execSer d s
  | .sbr d k => Sys2Proof.Machine.execSbr d k s
  | .cbr d k => Sys2Proof.Machine.execCbr d k s
  | .lsl d => Sys2Proof.Machine.execLsl d s
  | .rol d => Sys2Proof.Machine.execRol d s
  | .lsr d => Sys2Proof.Machine.execLsr d s
  | .asr d => Sys2Proof.Machine.execAsr d s
  | .ror d => Sys2Proof.Machine.execRor d s
  | .swap d => Sys2Proof.Machine.execSwap d s
  | .bset b => Sys2Proof.Machine.execBset b s
  | .bclr b => Sys2Proof.Machine.execBclr b s
  | .bst d b => Sys2Proof.Machine.execBst d b s
  | .bld d b => Sys2Proof.Machine.execBld d b s
  | .sbi a b => Sys2Proof.Machine.execSbi a b s
  | .cbi a b => Sys2Proof.Machine.execCbi a b s
  | .sec => Sys2Proof.Machine.execSec s
  | .sez => Sys2Proof.Machine.execSez s
  | .sen => Sys2Proof.Machine.execSen s
  | .sev => Sys2Proof.Machine.execSev s
  | .ses => Sys2Proof.Machine.execSes s
  | .seh => Sys2Proof.Machine.execSeh s
  | .set_ => Sys2Proof.Machine.execSet s
  | .sei => Sys2Proof.Machine.execSei s
  | .clc => Sys2Proof.Machine.execClc s
  | .clz => Sys2Proof.Machine.execClz s
  | .cln => Sys2Proof.Machine.execCln s
  | .clv => Sys2Proof.Machine.execClv s
  | .cls => Sys2Proof.Machine.execCls s
  | .clh => Sys2Proof.Machine.execClh s
  | .clt => Sys2Proof.Machine.execClt s
  | .cli => Sys2Proof.Machine.execCli s
  | .mov d r => Sys2Proof.Machine.execMov d r s
  | .movw d r => Sys2Proof.Machine.execMovw d r s
  | .ldi d k => Sys2Proof.Machine.execLdi d k s
  | .ldX d => Sys2Proof.Machine.execLdX d s
  | .ldXp d => Sys2Proof.Machine.execLdXp d s
  | .ldMx d => Sys2Proof.Machine.execLdMx d s
  | .ldYp d => Sys2Proof.Machine.execLdYp d s
  | .ldMy d => Sys2Proof.Machine.execLdMy d s
  | .ldZp d => Sys2Proof.Machine.execLdZp d s
  | .ldMz d => Sys2Proof.Machine.execLdMz d s
  | .lddY d q => Sys2Proof.Machine.execLddY d q s
  | .lddZ d q => Sys2Proof.Machine.execLddZ d q s
  | .lds d k => Sys2Proof.Machine.execLds d k s
  | .stX r => Sys2Proof.Machine.execStX r s
  | .stXp r => Sys2Proof.Machine.execStXp r s
  | .stMx r => Sys2Proof.Machine.execStMx r s
  | .stYp r => Sys2Proof.Machine.execStYp r s
  | .stMy r => Sys2Proof.Machine.execStMy r s
  | .stZp r => Sys2Proof.Machine.execStZp r s
  | .stMz r => Sys2Proof.Machine.execStMz r s
  | .stdY q r => Sys2Proof.Machine.execStdY q r s
  | .stdZ q r => Sys2Proof.Machine.execStdZ q r s
  | .sts k r => Sys2Proof.Machine.execSts k r s
  | .lpm => Sys2Proof.Machine.execLpm s
  | .lpmZ d => Sys2Proof.Machine.execLpmZ d s
  | .lpmZp d => Sys2Proof.Machine.execLpmZp d s
  | .elpm => Sys2Proof.Machine.execElpm s
  | .elpmZ d => Sys2Proof.Machine.execElpmZ d s
  | .elpmZp d => Sys2Proof.Machine.execElpmZp d s
  | .spm => Sys2Proof.Machine.execSpm s
  | .in_ d a => Sys2Proof.Machine.execIn d a s
  | .out a r => Sys2Proof.Machine.execOut a r s
  | .push r => Sys2Proof.Machine.execPush r s
  | .pop d => Sys2Proof.Machine.execPop d s
  | .ldY d => Sys2Proof.Machine.execLdY d s
  | .ldZ d => Sys2Proof.Machine.execLdZ d s
  | .stY r => Sys2Proof.Machine.execStY r s
  | .stZ r => Sys2Proof.Machine.execStZ r s
  | .rjmp k => Sys2Proof.Machine.execRjmp k s
  | .ijmp => Sys2Proof.Machine.execIjmp s
  | .eijmp => Sys2Proof.Machine.execEijmp s
  | .jmp k => Sys2Proof.Machine.execJmp k s
  | .rcall k => Sys2Proof.Machine.execRcall k s
  | .icall => Sys2Proof.Machine.execIcall s
  | .eicall => Sys2Proof.Machine.execEicall s
  | .call k => Sys2Proof.Machine.execCall k s
  | .ret => Sys2Proof.Machine.execRet s
  | .reti => Sys2Proof.Machine.execReti s
  | .brbs b k => Sys2Proof.Machine.execBrbs b k s
  | .brbc b k => Sys2Proof.Machine.execBrbc b k s
  | .cpse d r => Sys2Proof.Machine.execCpse d r s
  | .sbrc r b => Sys2Proof.Machine.execSbrc r b s
  | .sbrs r b => Sys2Proof.Machine.execSbrs r b s
  | .sbic a b => Sys2Proof.Machine.execSbic a b s
  | .sbis a b => Sys2Proof.Machine.execSbis a b s
  | .brcs k => Sys2Proof.Machine.execBrcs k s
  | .brlo k => Sys2Proof.Machine.execBrlo k s
  | .breq k => Sys2Proof.Machine.execBreq k s
  | .brmi k => Sys2Proof.Machine.execBrmi k s
  | .brvs k => Sys2Proof.Machine.execBrvs k s
  | .brlt k => Sys2Proof.Machine.execBrlt k s
  | .brhs k => Sys2Proof.Machine.execBrhs k s
  | .brts k => Sys2Proof.Machine.execBrts k s
  | .brie k => Sys2Proof.Machine.execBrie k s
  | .brcc k => Sys2Proof.Machine.execBrcc k s
  | .brsh k => Sys2Proof.Machine.execBrsh k s
  | .brne k => Sys2Proof.Machine.execBrne k s
  | .brpl k => Sys2Proof.Machine.execBrpl k s
  | .brvc k => Sys2Proof.Machine.execBrvc k s
  | .brge k => Sys2Proof.Machine.execBrge k s
  | .brhc k => Sys2Proof.Machine.execBrhc k s
  | .brtc k => Sys2Proof.Machine.execBrtc k s
  | .brid k => Sys2Proof.Machine.execBrid k s
  | .nop => Sys2Proof.Machine.execNop s
  | .sleep => Sys2Proof.Machine.execSleep s
  | .wdr => Sys2Proof.Machine.execWdr s
  | .break_ => Sys2Proof.Machine.execBreak s

end Sys2Proof.Machine
end

