-- ==== Sys2Proof/Machine/Fetch.lean ====
section
/-! DEFINITION. Fetch, and the two ends of a step: what is done before the instruction executes and after it (10 R33). -/

namespace Sys2Proof.Machine

/-- Fetch and decode at `pc`: the second word is fetched only for a 4-byte instruction (10 R33, 92 D24). The faults come
in the order of 60 R507. -/
def State.fetchInstr (s : State) : Except Fault (Instr × Nat) :=
  match s.flash16 s.pc with
  | .error e => .error e
  | .ok w0 =>
    match decodeFirst w0 with
    | none => .error (.decodeFailure s.pc w0)
    | some m =>
      if is4 w0 then
        match s.flash16 (s.pc + 2) with
        | .error e => .error e
        | .ok w1 => .ok (build m w0 w1, 4)
      else .ok (build m w0 0, 2)

/-- Before execution: `nextpc <- (pc + size) mod 2^PC_BITS` (10 R33). -/
def State.enter (s : State) (size : Nat) : State := s.jumpTo (s.pc + size)

/-- After execution: `pc <- nextpc` (10 R33). -/
def State.retire (s : State) : State := { s with pc := s.nextpc }

/-- The loader's write of bytes from a program address on, within program memory (10 R35, log 4). -/
def State.loadFlash (s : State) (a : Nat) (bytes : List Byte) : State :=
  match bytes with
  | [] => s
  | b :: rest =>
    (if a < s.dev.flashBytes then { s with flash := s.flash.write a b } else s).loadFlash (a + 1) rest

end Sys2Proof.Machine
end

