-- ==== Sys2Proof/Machine/Step.lean ====
section
/-! DEFINITION. One step of the core (10 R33). -/

namespace Sys2Proof.Machine

/-- One step: fetch and decode at `pc`, set `nextpc`, execute, then `pc <- nextpc`. A fault leaves the state as it was
before the step, which the caller holds (60 R500). -/
def step (s : State) : Host.Outcome State Fault Refusal :=
  match s.fetchInstr with
  | .error e => .fault e
  | .ok got =>
    match exec got.1 (s.enter got.2) with
    | .next t => .next t.retire
    | .fault e => .fault e
    | .refused r => .refused r

/-- The program bytes of one instruction, placed where the next step fetches (log 4). -/
def State.withFetchWord (s : State) (nbits w : Nat) : State := s.loadFlash s.pc (bytesOfNat32 (w % 2 ^ nbits))

end Sys2Proof.Machine
end

