-- ==== Sys2Proof/Machine/DecisionTree.lean ====
section
/-! DEFINITION. The decision tree of the decoder (30 R104 to R109): the 28 nodes as data and the walk over them. It
computes `decodeFirst` (30 R109). -/

namespace Sys2Proof.Machine

/-- The 28 nodes of R109. -/
inductive NodeId where
  | root0 | n0 | n00 | n03 | n03a | n03b | n1 | n2 | nldd | nlddl | nldds | nio | nf | nfbld | nfbst | nfsbrc | nfsbrs
  | root1 | nld | nst | n94 | n948 | n948f | n948m | n949 | niw | ncbi | nsbi
  deriving DecidableEq, Repr

/-- Where the walk stands: still descending, instruction identified, or no valid instruction (R104). -/
inductive WalkState where
  | move (node : NodeId)
  | ok (mnemonic : Mnemonic)
  | err
  deriving DecidableEq, Repr

/-- A node: a dense array of children indexed by the field value, or a sorted table with a default child (R105). -/
inductive TreeNode where
  | dense (leftBit mask : Nat) (children : List WalkState)
  | sparse (leftBit mask : Nat) (entries : List (Nat × WalkState)) (default : WalkState)
  deriving DecidableEq, Repr

/-- The nodes of R109, row by row. -/
def treeNode : NodeId → TreeNode
  | .root0 => .dense 12 0xF [.move .n0, .move .n1, .move .n2, .ok .cpi, .ok .sbci, .ok .subi, .ok .ori, .ok .andi,
      .move .nldd, .move .root1, .move .nldd, .move .nio, .ok .rjmp, .ok .rcall, .ok .ldi, .move .nf]
  | .n0 => .dense 8 0xF [.move .n00, .ok .movw, .ok .muls, .move .n03, .ok .cpc, .ok .cpc, .ok .cpc, .ok .cpc,
      .ok .sbc, .ok .sbc, .ok .sbc, .ok .sbc, .ok .add, .ok .add, .ok .add, .ok .add]
  | .n00 => .sparse 0 0xFF [(0, .ok .nop)] .err
  | .n03 => .dense 7 0x1 [.move .n03a, .move .n03b]
  | .n03a => .dense 3 0x1 [.ok .mulsu, .ok .fmul]
  | .n03b => .dense 3 0x1 [.ok .fmuls, .ok .fmulsu]
  | .n1 => .dense 10 0x3 [.ok .cpse, .ok .cp, .ok .sub, .ok .adc]
  | .n2 => .dense 10 0x3 [.ok .and, .ok .eor, .ok .or, .ok .mov]
  | .nldd => .dense 9 0x1 [.move .nlddl, .move .nldds]
  | .nlddl => .dense 3 0x1 [.ok .lddZ, .ok .lddY]
  | .nldds => .dense 3 0x1 [.ok .stdZ, .ok .stdY]
  | .nio => .dense 11 0x1 [.ok .in_, .ok .out]
  | .nf => .dense 9 0x7 [.ok .brbs, .ok .brbs, .ok .brbc, .ok .brbc, .move .nfbld, .move .nfbst, .move .nfsbrc,
      .move .nfsbrs]
  | .nfbld => .dense 3 0x1 [.ok .bld, .err]
  | .nfbst => .dense 3 0x1 [.ok .bst, .err]
  | .nfsbrc => .dense 3 0x1 [.ok .sbrc, .err]
  | .nfsbrs => .dense 3 0x1 [.ok .sbrs, .err]
  | .root1 => .dense 9 0x7 [.move .nld, .move .nst, .move .n94, .move .niw, .move .ncbi, .move .nsbi, .ok .mul, .ok .mul]
  | .nld => .dense 0 0xF [.ok .lds, .ok .ldZp, .ok .ldMz, .err, .ok .lpmZ, .ok .lpmZp, .ok .elpmZ, .ok .elpmZp,
      .err, .ok .ldYp, .ok .ldMy, .err, .ok .ldX, .ok .ldXp, .ok .ldMx, .ok .pop]
  | .nst => .dense 0 0xF [.ok .sts, .ok .stZp, .ok .stMz, .err, .err, .err, .err, .err,
      .err, .ok .stYp, .ok .stMy, .err, .ok .stX, .ok .stXp, .ok .stMx, .ok .push]
  | .n94 => .dense 0 0xF [.ok .com, .ok .neg, .ok .swap, .ok .inc, .err, .ok .asr, .ok .lsr, .ok .ror,
      .move .n948, .move .n949, .ok .dec, .err, .ok .jmp, .ok .jmp, .ok .call, .ok .call]
  | .n948 => .dense 8 0x1 [.move .n948f, .move .n948m]
  | .n948f => .dense 7 0x1 [.ok .bset, .ok .bclr]
  | .n948m => .sparse 4 0xF [(0, .ok .ret), (1, .ok .reti), (8, .ok .sleep), (9, .ok .break_), (10, .ok .wdr),
      (12, .ok .lpm), (13, .ok .elpm), (14, .ok .spm)] .err
  | .n949 => .sparse 4 0x1F [(0, .ok .ijmp), (1, .ok .eijmp), (16, .ok .icall), (17, .ok .eicall)] .err
  | .niw => .dense 8 0x1 [.ok .adiw, .ok .sbiw]
  | .ncbi => .dense 8 0x1 [.ok .cbi, .ok .sbic]
  | .nsbi => .dense 8 0x1 [.ok .sbi, .ok .sbis]

/-- The child of a field value in a sparse node's table (R105). -/
def sparseChild (entries : List (Nat × WalkState)) (default : WalkState) (value : Nat) : WalkState :=
  match entries with
  | [] => default
  | entry :: rest => if entry.1 = value then entry.2 else sparseChild rest default value

/-- The child a node sends the word to: the field is `(word0 >> left_bit) & mask` (R105). -/
def TreeNode.child (node : TreeNode) (w0 : Word16) : WalkState :=
  match node with
  | .dense leftBit mask children => children.getD ((w0.toNat >>> leftBit) &&& mask) .err
  | .sparse leftBit mask entries default => sparseChild entries default ((w0.toNat >>> leftBit) &&& mask)

/-- One transition of the walk (R107). -/
def WalkState.advance (state : WalkState) (w0 : Word16) : WalkState :=
  match state with
  | .move node => (treeNode node).child w0
  | .ok m => .ok m
  | .err => .err

/-- `n` transitions of the walk. -/
def walk (n : Nat) (state : WalkState) (w0 : Word16) : WalkState :=
  match n with
  | 0 => state
  | k + 1 => walk k (state.advance w0) w0

/-- The walk from `root0`, at most five transitions deep (R104, R109). -/
def treeDecode (w0 : Word16) : Option Mnemonic :=
  match walk 5 (.move .root0) w0 with
  | .ok m => some m
  | .move _ => none
  | .err => none

end Sys2Proof.Machine
end

