-- ==== Sys2Proof/Machine/Exact.lean ====
section
/-! DEFINITION. The arithmetic of the ALU said once more through exact integers, for the statements: a result is the exact
number reduced to its width, carry says that the unsigned number left its width, V that the signed number did, S that the
exact signed number is negative (00 R13; 40 R201 to R204; 10 R28). The meanings use Flags.lean, not this file. -/

namespace Sys2Proof.Machine

/-- The signed number fits in eight bits. -/
def fitsByte (x : Int) : Bool := decide (-128 ≤ x) && decide (x ≤ 127)

/-- The signed number fits in sixteen bits. -/
def fitsWord (x : Int) : Bool := decide (-32768 ≤ x) && decide (x ≤ 32767)

/-- Addition with a carry in. -/
def exactAdd (a b : Byte) (carry : Bool) (f : Flags) : Byte × Flags :=
  let unsigned := a.toNat + b.toNat + carry.toNat
  let signed := a.toInt + b.toInt + carry.toNat
  (BitVec.ofNat 8 unsigned, { f with
    c := decide (256 ≤ unsigned)
    z := decide (unsigned % 256 = 0)
    n := decide (128 ≤ unsigned % 256)
    v := !fitsByte signed
    s := decide (signed < 0)
    h := decide (16 ≤ a.toNat % 16 + b.toNat % 16 + carry.toNat) })

/-- Subtraction with a borrow in; `zIn` is ANDed into Z. -/
def exactSub (a b : Byte) (borrow zIn : Bool) (f : Flags) : Byte × Flags :=
  let unsigned : Int := (a.toNat : Int) - b.toNat - borrow.toNat
  let signed := a.toInt - b.toInt - borrow.toNat
  (BitVec.ofInt 8 unsigned, { f with
    c := decide (unsigned < 0)
    z := decide (unsigned % 256 = 0) && zIn
    n := decide (128 ≤ unsigned % 256)
    v := !fitsByte signed
    s := decide (signed < 0)
    h := decide ((a.toNat % 16 : Int) - (b.toNat % 16 : Int) - borrow.toNat < 0) })

/-- The flags of a bitwise result. -/
def exactLogic (r : Byte) (f : Flags) : Byte × Flags :=
  (r, { f with z := decide (r.toNat = 0), n := decide (128 ≤ r.toNat), v := false, s := decide (r.toInt < 0) })

/-- A byte plus a small signed number, C and H kept: INC and DEC. -/
def exactStep (a : Byte) (k : Int) (f : Flags) : Byte × Flags :=
  let signed := a.toInt + k
  (BitVec.ofInt 8 signed, { f with
    z := decide (signed % 256 = 0)
    n := decide (128 ≤ signed % 256)
    v := !fitsByte signed
    s := decide (signed < 0) })

/-- A shift right by one with a bit injected at the top, H kept: S is the bit shifted out. -/
def exactShiftRight (a : Byte) (inject : Bool) (f : Flags) : Byte × Flags :=
  let r := a.toNat / 2 + 128 * inject.toNat
  (BitVec.ofNat 8 r, { f with
    c := decide (a.toNat % 2 = 1)
    z := decide (r = 0)
    n := inject
    v := inject != decide (a.toNat % 2 = 1)
    s := decide (a.toNat % 2 = 1) })

/-- A word plus a signed number, H kept: ADIW and SBIW. -/
def exactWord (w : Word16) (k : Int) (f : Flags) : Word16 × Flags :=
  let unsigned := (w.toNat : Int) + k
  let signed := w.toInt + k
  (BitVec.ofInt 16 unsigned, { f with
    c := decide (unsigned < 0) || decide (65536 ≤ unsigned)
    z := decide (unsigned % 65536 = 0)
    n := decide (32768 ≤ unsigned % 65536)
    v := !fitsWord signed
    s := decide (signed < 0) })

/-- A product, doubled for the fractional forms: C is bit 15 of the product before the doubling, Z tests the result. -/
def exactProduct (p : Int) (fractional : Bool) (f : Flags) : Word16 × Flags :=
  let result := if fractional then 2 * p else p
  (BitVec.ofInt 16 result, { f with
    c := decide (32768 ≤ p % 65536)
    z := decide (result % 65536 = 0) })

end Sys2Proof.Machine
end

