-- ==== Sys2Proof/Machine/Footprint.lean ====
section
/-! DEFINITION. What each instruction reads, writes and may meet, as functions of the instruction and the state before it,
for the statements: the memory operand of a load, a store and a program-memory read (spec 42), the tests of branches and
skips (spec 43), the footprint of an instruction, and the instructions that fault by their words alone (60 R505). The
meanings do not use this file. -/

namespace Sys2Proof.Machine

/-! ### What the device says of an instruction -/

/-- The device implements the instruction: its mnemonic is not in `UNIMPL_SET` (60 R502). -/
abbrev State.implements (s : State) (i : Instr) : Prop := i.mnemonic ∉ s.dev.unimplSet

/-- The base cycles of the instruction (70 R580). -/
def State.baseCycles (s : State) (i : Instr) : Nat := s.dev.cycBase i.mnemonic

/-! ### Operands in memory -/

/-- A load: the destination, the data address, and the state after the pointer update (42 R315 to R324, R346, R347). -/
def loadOperand (i : Instr) (s : State) : Option (Fin 32 × Nat × State) :=
  match i with
  | .ldX d => some (gpr d, (s.ptr .x).toNat, s)
  | .ldXp d => some (gpr d, (s.ptr .x).toNat, s.setPair 13 (s.ptr .x + 1))
  | .ldMx d => some (gpr d, (s.ptr .x - 1).toNat, s.setPair 13 (s.ptr .x - 1))
  | .ldYp d => some (gpr d, (s.ptr .y).toNat, s.setPair 14 (s.ptr .y + 1))
  | .ldMy d => some (gpr d, (s.ptr .y - 1).toNat, s.setPair 14 (s.ptr .y - 1))
  | .ldZp d => some (gpr d, (s.ptr .z).toNat, s.setPair 15 (s.ptr .z + 1))
  | .ldMz d => some (gpr d, (s.ptr .z - 1).toNat, s.setPair 15 (s.ptr .z - 1))
  | .lddY d q => some (gpr d, (s.ptr .y).toNat + q.toNat, s)
  | .lddZ d q => some (gpr d, (s.ptr .z).toNat + q.toNat, s)
  | .lds d k => some (gpr d, k.toNat, s)
  | .ldY d => some (gpr d, (s.ptr .y).toNat, s)
  | .ldZ d => some (gpr d, (s.ptr .z).toNat, s)
  | .add _ _ | .adc _ _ | .adiw _ _ | .sub _ _ | .subi _ _ | .sbc _ _ | .sbci _ _ | .sbiw _ _ | .and _ _
    | .andi _ _ | .or _ _ | .ori _ _ | .eor _ _ | .com _ | .neg _ | .inc _ | .dec _ | .cp _ _ | .cpc _ _
    | .cpi _ _ | .mul _ _ | .muls _ _ | .mulsu _ _ | .fmul _ _ | .fmuls _ _ | .fmulsu _ _ | .tst _ | .clr _
    | .ser _ | .sbr _ _ | .cbr _ _ | .lsl _ | .rol _ | .lsr _ | .asr _ | .ror _ | .swap _ | .bset _ | .bclr _
    | .bst _ _ | .bld _ _ | .sbi _ _ | .cbi _ _ | .sec | .sez | .sen | .sev | .ses | .seh | .set_ | .sei | .clc
    | .clz | .cln | .clv | .cls | .clh | .clt | .cli | .mov _ _ | .movw _ _ | .ldi _ _ | .stX _ | .stXp _
    | .stMx _ | .stYp _ | .stMy _ | .stZp _ | .stMz _ | .stdY _ _ | .stdZ _ _ | .sts _ _ | .lpm | .lpmZ _
    | .lpmZp _ | .elpm | .elpmZ _ | .elpmZp _ | .spm | .in_ _ _ | .out _ _ | .push _ | .pop _ | .stY _ | .stZ _
    | .rjmp _ | .ijmp | .eijmp | .jmp _ | .rcall _ | .icall | .eicall | .call _ | .ret | .reti | .brbs _ _
    | .brbc _ _ | .cpse _ _ | .sbrc _ _ | .sbrs _ _ | .sbic _ _ | .sbis _ _ | .brcs _ | .brlo _ | .breq _
    | .brmi _ | .brvs _ | .brlt _ | .brhs _ | .brts _ | .brie _ | .brcc _ | .brsh _ | .brne _ | .brpl _
    | .brvc _ | .brge _ | .brhc _ | .brtc _ | .brid _ | .nop | .sleep | .wdr | .break_ => none

/-- A store: the value, the data address, and the state after the pointer update (42 R325 to R334, R348, R349). -/
def storeOperand (i : Instr) (s : State) : Option (Byte × Nat × State) :=
  match i with
  | .stX r => some (s.reg (gpr r), (s.ptr .x).toNat, s)
  | .stXp r => some (s.reg (gpr r), (s.ptr .x).toNat, s.setPair 13 (s.ptr .x + 1))
  | .stMx r => some (s.reg (gpr r), (s.ptr .x - 1).toNat, s.setPair 13 (s.ptr .x - 1))
  | .stYp r => some (s.reg (gpr r), (s.ptr .y).toNat, s.setPair 14 (s.ptr .y + 1))
  | .stMy r => some (s.reg (gpr r), (s.ptr .y - 1).toNat, s.setPair 14 (s.ptr .y - 1))
  | .stZp r => some (s.reg (gpr r), (s.ptr .z).toNat, s.setPair 15 (s.ptr .z + 1))
  | .stMz r => some (s.reg (gpr r), (s.ptr .z - 1).toNat, s.setPair 15 (s.ptr .z - 1))
  | .stdY q r => some (s.reg (gpr r), (s.ptr .y).toNat + q.toNat, s)
  | .stdZ q r => some (s.reg (gpr r), (s.ptr .z).toNat + q.toNat, s)
  | .sts k r => some (s.reg (gpr r), k.toNat, s)
  | .stY r => some (s.reg (gpr r), (s.ptr .y).toNat, s)
  | .stZ r => some (s.reg (gpr r), (s.ptr .z).toNat, s)
  | .add _ _ | .adc _ _ | .adiw _ _ | .sub _ _ | .subi _ _ | .sbc _ _ | .sbci _ _ | .sbiw _ _ | .and _ _
    | .andi _ _ | .or _ _ | .ori _ _ | .eor _ _ | .com _ | .neg _ | .inc _ | .dec _ | .cp _ _ | .cpc _ _
    | .cpi _ _ | .mul _ _ | .muls _ _ | .mulsu _ _ | .fmul _ _ | .fmuls _ _ | .fmulsu _ _ | .tst _ | .clr _
    | .ser _ | .sbr _ _ | .cbr _ _ | .lsl _ | .rol _ | .lsr _ | .asr _ | .ror _ | .swap _ | .bset _ | .bclr _
    | .bst _ _ | .bld _ _ | .sbi _ _ | .cbi _ _ | .sec | .sez | .sen | .sev | .ses | .seh | .set_ | .sei | .clc
    | .clz | .cln | .clv | .cls | .clh | .clt | .cli | .mov _ _ | .movw _ _ | .ldi _ _ | .ldX _ | .ldXp _
    | .ldMx _ | .ldYp _ | .ldMy _ | .ldZp _ | .ldMz _ | .lddY _ _ | .lddZ _ _ | .lds _ _ | .lpm | .lpmZ _
    | .lpmZp _ | .elpm | .elpmZ _ | .elpmZp _ | .spm | .in_ _ _ | .out _ _ | .push _ | .pop _ | .ldY _ | .ldZ _
    | .rjmp _ | .ijmp | .eijmp | .jmp _ | .rcall _ | .icall | .eicall | .call _ | .ret | .reti | .brbs _ _
    | .brbc _ _ | .cpse _ _ | .sbrc _ _ | .sbrs _ _ | .sbic _ _ | .sbis _ _ | .brcs _ | .brlo _ | .breq _
    | .brmi _ | .brvs _ | .brlt _ | .brhs _ | .brts _ | .brie _ | .brcc _ | .brsh _ | .brne _ | .brpl _
    | .brvc _ | .brge _ | .brhc _ | .brtc _ | .brid _ | .nop | .sleep | .wdr | .break_ => none

/-- A program-memory read: the destination, the program address, and the state after the pointer update (42 R335 to
R340). -/
def flashOperand (i : Instr) (s : State) : Option (Fin 32 × Nat × State) :=
  match i with
  | .lpm => some (0, (s.ptr .z).toNat, s)
  | .lpmZ d => some (gpr d, (s.ptr .z).toNat, s)
  | .lpmZp d => some (gpr d, (s.ptr .z).toNat, s.setPair 15 (s.ptr .z + 1))
  | .elpm => some (0, s.elpmAddress, s)
  | .elpmZ d => some (gpr d, s.elpmAddress, s)
  | .elpmZp d => some (gpr d, s.elpmAddress, s.setPair 15 (s.ptr .z + 1))
  | .add _ _ | .adc _ _ | .adiw _ _ | .sub _ _ | .subi _ _ | .sbc _ _ | .sbci _ _ | .sbiw _ _ | .and _ _
    | .andi _ _ | .or _ _ | .ori _ _ | .eor _ _ | .com _ | .neg _ | .inc _ | .dec _ | .cp _ _ | .cpc _ _
    | .cpi _ _ | .mul _ _ | .muls _ _ | .mulsu _ _ | .fmul _ _ | .fmuls _ _ | .fmulsu _ _ | .tst _ | .clr _
    | .ser _ | .sbr _ _ | .cbr _ _ | .lsl _ | .rol _ | .lsr _ | .asr _ | .ror _ | .swap _ | .bset _ | .bclr _
    | .bst _ _ | .bld _ _ | .sbi _ _ | .cbi _ _ | .sec | .sez | .sen | .sev | .ses | .seh | .set_ | .sei | .clc
    | .clz | .cln | .clv | .cls | .clh | .clt | .cli | .mov _ _ | .movw _ _ | .ldi _ _ | .ldX _ | .ldXp _
    | .ldMx _ | .ldYp _ | .ldMy _ | .ldZp _ | .ldMz _ | .lddY _ _ | .lddZ _ _ | .lds _ _ | .stX _ | .stXp _
    | .stMx _ | .stYp _ | .stMy _ | .stZp _ | .stMz _ | .stdY _ _ | .stdZ _ _ | .sts _ _ | .spm | .in_ _ _
    | .out _ _ | .push _ | .pop _ | .ldY _ | .ldZ _ | .stY _ | .stZ _ | .rjmp _ | .ijmp | .eijmp | .jmp _
    | .rcall _ | .icall | .eicall | .call _ | .ret | .reti | .brbs _ _ | .brbc _ _ | .cpse _ _ | .sbrc _ _
    | .sbrs _ _ | .sbic _ _ | .sbis _ _ | .brcs _ | .brlo _ | .breq _ | .brmi _ | .brvs _ | .brlt _ | .brhs _
    | .brts _ | .brie _ | .brcc _ | .brsh _ | .brne _ | .brpl _ | .brvc _ | .brge _ | .brhc _ | .brtc _
    | .brid _ | .nop | .sleep | .wdr | .break_ => none

/-! ### Tests -/

/-- A conditional branch: whether it is taken, and its displacement (43 R393, R394, R400 to R417). -/
def branchTest (i : Instr) (s : State) : Option (Bool × SREL) :=
  match i with
  | .brbs b k => some (s.flags.bit b, k)
  | .brbc b k => some (!s.flags.bit b, k)
  | .brcs k | .brlo k => some (s.flags.c, k)
  | .breq k => some (s.flags.z, k)
  | .brmi k => some (s.flags.n, k)
  | .brvs k => some (s.flags.v, k)
  | .brlt k => some (s.flags.s, k)
  | .brhs k => some (s.flags.h, k)
  | .brts k => some (s.flags.t, k)
  | .brie k => some (s.flags.i, k)
  | .brcc k | .brsh k => some (!s.flags.c, k)
  | .brne k => some (!s.flags.z, k)
  | .brpl k => some (!s.flags.n, k)
  | .brvc k => some (!s.flags.v, k)
  | .brge k => some (!s.flags.s, k)
  | .brhc k => some (!s.flags.h, k)
  | .brtc k => some (!s.flags.t, k)
  | .brid k => some (!s.flags.i, k)
  | .add _ _ | .adc _ _ | .adiw _ _ | .sub _ _ | .subi _ _ | .sbc _ _ | .sbci _ _ | .sbiw _ _ | .and _ _
    | .andi _ _ | .or _ _ | .ori _ _ | .eor _ _ | .com _ | .neg _ | .inc _ | .dec _ | .cp _ _ | .cpc _ _
    | .cpi _ _ | .mul _ _ | .muls _ _ | .mulsu _ _ | .fmul _ _ | .fmuls _ _ | .fmulsu _ _ | .tst _ | .clr _
    | .ser _ | .sbr _ _ | .cbr _ _ | .lsl _ | .rol _ | .lsr _ | .asr _ | .ror _ | .swap _ | .bset _ | .bclr _
    | .bst _ _ | .bld _ _ | .sbi _ _ | .cbi _ _ | .sec | .sez | .sen | .sev | .ses | .seh | .set_ | .sei | .clc
    | .clz | .cln | .clv | .cls | .clh | .clt | .cli | .mov _ _ | .movw _ _ | .ldi _ _ | .ldX _ | .ldXp _
    | .ldMx _ | .ldYp _ | .ldMy _ | .ldZp _ | .ldMz _ | .lddY _ _ | .lddZ _ _ | .lds _ _ | .stX _ | .stXp _
    | .stMx _ | .stYp _ | .stMy _ | .stZp _ | .stMz _ | .stdY _ _ | .stdZ _ _ | .sts _ _ | .lpm | .lpmZ _
    | .lpmZp _ | .elpm | .elpmZ _ | .elpmZp _ | .spm | .in_ _ _ | .out _ _ | .push _ | .pop _ | .ldY _ | .ldZ _
    | .stY _ | .stZ _ | .rjmp _ | .ijmp | .eijmp | .jmp _ | .rcall _ | .icall | .eicall | .call _ | .ret | .reti
    | .cpse _ _ | .sbrc _ _ | .sbrs _ _ | .sbic _ _ | .sbis _ _ | .nop | .sleep | .wdr | .break_ => none

/-- A skip: whether it skips, and the state after its test (43 R395 to R399). -/
def skipTest (i : Instr) (s : State) : Option (Bool × State) :=
  match i with
  | .cpse d r => some (s.reg (gpr d) == s.reg (gpr r), s)
  | .sbrc r b => some (!(s.reg (gpr r)).getLsbD b.toNat, s)
  | .sbrs r b => some ((s.reg (gpr r)).getLsbD b.toNat, s)
  | .sbic a b => some (!(s.ioRead a.toNat).1.getLsbD b.toNat, (s.ioRead a.toNat).2)
  | .sbis a b => some ((s.ioRead a.toNat).1.getLsbD b.toNat, (s.ioRead a.toNat).2)
  | .add _ _ | .adc _ _ | .adiw _ _ | .sub _ _ | .subi _ _ | .sbc _ _ | .sbci _ _ | .sbiw _ _ | .and _ _
    | .andi _ _ | .or _ _ | .ori _ _ | .eor _ _ | .com _ | .neg _ | .inc _ | .dec _ | .cp _ _ | .cpc _ _
    | .cpi _ _ | .mul _ _ | .muls _ _ | .mulsu _ _ | .fmul _ _ | .fmuls _ _ | .fmulsu _ _ | .tst _ | .clr _
    | .ser _ | .sbr _ _ | .cbr _ _ | .lsl _ | .rol _ | .lsr _ | .asr _ | .ror _ | .swap _ | .bset _ | .bclr _
    | .bst _ _ | .bld _ _ | .sbi _ _ | .cbi _ _ | .sec | .sez | .sen | .sev | .ses | .seh | .set_ | .sei | .clc
    | .clz | .cln | .clv | .cls | .clh | .clt | .cli | .mov _ _ | .movw _ _ | .ldi _ _ | .ldX _ | .ldXp _
    | .ldMx _ | .ldYp _ | .ldMy _ | .ldZp _ | .ldMz _ | .lddY _ _ | .lddZ _ _ | .lds _ _ | .stX _ | .stXp _
    | .stMx _ | .stYp _ | .stMy _ | .stZp _ | .stMz _ | .stdY _ _ | .stdZ _ _ | .sts _ _ | .lpm | .lpmZ _
    | .lpmZp _ | .elpm | .elpmZ _ | .elpmZp _ | .spm | .in_ _ _ | .out _ _ | .push _ | .pop _ | .ldY _ | .ldZ _
    | .stY _ | .stZ _ | .rjmp _ | .ijmp | .eijmp | .jmp _ | .rcall _ | .icall | .eicall | .call _ | .ret | .reti
    | .brbs _ _ | .brbc _ _ | .brcs _ | .brlo _ | .breq _ | .brmi _ | .brvs _ | .brlt _ | .brhs _ | .brts _
    | .brie _ | .brcc _ | .brsh _ | .brne _ | .brpl _ | .brvc _ | .brge _ | .brhc _ | .brtc _ | .brid _ | .nop
    | .sleep | .wdr | .break_ => none

/-- The instruction may write `nextpc` (spec 43). -/
def isControl (i : Instr) : Bool :=
  match i with
  | .rjmp _ | .ijmp | .eijmp | .jmp _ | .rcall _ | .icall | .eicall | .call _ | .ret | .reti | .brbs _ _
    | .brbc _ _ | .cpse _ _ | .sbrc _ _ | .sbrs _ _ | .sbic _ _ | .sbis _ _ | .brcs _ | .brlo _ | .breq _
    | .brmi _ | .brvs _ | .brlt _ | .brhs _ | .brts _ | .brie _ | .brcc _ | .brsh _ | .brne _ | .brpl _
    | .brvc _ | .brge _ | .brhc _ | .brtc _ | .brid _ => true
  | .add _ _ | .adc _ _ | .adiw _ _ | .sub _ _ | .subi _ _ | .sbc _ _ | .sbci _ _ | .sbiw _ _ | .and _ _
    | .andi _ _ | .or _ _ | .ori _ _ | .eor _ _ | .com _ | .neg _ | .inc _ | .dec _ | .cp _ _ | .cpc _ _
    | .cpi _ _ | .mul _ _ | .muls _ _ | .mulsu _ _ | .fmul _ _ | .fmuls _ _ | .fmulsu _ _ | .tst _ | .clr _
    | .ser _ | .sbr _ _ | .cbr _ _ | .lsl _ | .rol _ | .lsr _ | .asr _ | .ror _ | .swap _ | .bset _ | .bclr _
    | .bst _ _ | .bld _ _ | .sbi _ _ | .cbi _ _ | .sec | .sez | .sen | .sev | .ses | .seh | .set_ | .sei | .clc
    | .clz | .cln | .clv | .cls | .clh | .clt | .cli | .mov _ _ | .movw _ _ | .ldi _ _ | .ldX _ | .ldXp _
    | .ldMx _ | .ldYp _ | .ldMy _ | .ldZp _ | .ldMz _ | .lddY _ _ | .lddZ _ _ | .lds _ _ | .stX _ | .stXp _
    | .stMx _ | .stYp _ | .stMy _ | .stZp _ | .stMz _ | .stdY _ _ | .stdZ _ _ | .sts _ _ | .lpm | .lpmZ _
    | .lpmZp _ | .elpm | .elpmZ _ | .elpmZp _ | .spm | .in_ _ _ | .out _ _ | .push _ | .pop _ | .ldY _ | .ldZ _
    | .stY _ | .stZ _ | .nop | .sleep | .wdr | .break_ => false

/-! ### Instructions that fault by their words alone -/

/-- The 28 words of 42 R311: the data register is one half of the pointer that the instruction updates. -/
def overlapOf (i : Instr) : Option Mnemonic :=
  match i with
  | .ldXp d => if gpr d = 26 ∨ gpr d = 27 then some .ldXp else none
  | .ldMx d => if gpr d = 26 ∨ gpr d = 27 then some .ldMx else none
  | .ldYp d => if gpr d = 28 ∨ gpr d = 29 then some .ldYp else none
  | .ldMy d => if gpr d = 28 ∨ gpr d = 29 then some .ldMy else none
  | .ldZp d => if gpr d = 30 ∨ gpr d = 31 then some .ldZp else none
  | .ldMz d => if gpr d = 30 ∨ gpr d = 31 then some .ldMz else none
  | .stXp r => if gpr r = 26 ∨ gpr r = 27 then some .stXp else none
  | .stMx r => if gpr r = 26 ∨ gpr r = 27 then some .stMx else none
  | .stYp r => if gpr r = 28 ∨ gpr r = 29 then some .stYp else none
  | .stMy r => if gpr r = 28 ∨ gpr r = 29 then some .stMy else none
  | .stZp r => if gpr r = 30 ∨ gpr r = 31 then some .stZp else none
  | .stMz r => if gpr r = 30 ∨ gpr r = 31 then some .stMz else none
  | .lpmZp d => if gpr d = 30 ∨ gpr d = 31 then some .lpmZp else none
  | .elpmZp d => if gpr d = 30 ∨ gpr d = 31 then some .elpmZp else none
  | .add _ _ | .adc _ _ | .adiw _ _ | .sub _ _ | .subi _ _ | .sbc _ _ | .sbci _ _ | .sbiw _ _ | .and _ _
    | .andi _ _ | .or _ _ | .ori _ _ | .eor _ _ | .com _ | .neg _ | .inc _ | .dec _ | .cp _ _ | .cpc _ _
    | .cpi _ _ | .mul _ _ | .muls _ _ | .mulsu _ _ | .fmul _ _ | .fmuls _ _ | .fmulsu _ _ | .tst _ | .clr _
    | .ser _ | .sbr _ _ | .cbr _ _ | .lsl _ | .rol _ | .lsr _ | .asr _ | .ror _ | .swap _ | .bset _ | .bclr _
    | .bst _ _ | .bld _ _ | .sbi _ _ | .cbi _ _ | .sec | .sez | .sen | .sev | .ses | .seh | .set_ | .sei | .clc
    | .clz | .cln | .clv | .cls | .clh | .clt | .cli | .mov _ _ | .movw _ _ | .ldi _ _ | .ldX _ | .lddY _ _
    | .lddZ _ _ | .lds _ _ | .stX _ | .stdY _ _ | .stdZ _ _ | .sts _ _ | .lpm | .lpmZ _ | .elpm | .elpmZ _
    | .spm | .in_ _ _ | .out _ _ | .push _ | .pop _ | .ldY _ | .ldZ _ | .stY _ | .stZ _ | .rjmp _ | .ijmp
    | .eijmp | .jmp _ | .rcall _ | .icall | .eicall | .call _ | .ret | .reti | .brbs _ _ | .brbc _ _ | .cpse _ _
    | .sbrc _ _ | .sbrs _ _ | .sbic _ _ | .sbis _ _ | .brcs _ | .brlo _ | .breq _ | .brmi _ | .brvs _ | .brlt _
    | .brhs _ | .brts _ | .brie _ | .brcc _ | .brsh _ | .brne _ | .brpl _ | .brvc _ | .brge _ | .brhc _
    | .brtc _ | .brid _ | .nop | .sleep | .wdr | .break_ => none

/-! ### Footprints -/

/-- The registers the instruction itself writes: its destination, and the pointer it updates. A store may write one more,
when its address is below 32 (20 R61). -/
def regsWritten (i : Instr) : List (Fin 32) :=
  match i with
  | .add d _ | .adc d _ | .sub d _ | .sbc d _ | .and d _ | .or d _ | .eor d _ | .com d | .neg d | .inc d
    | .dec d | .tst d | .clr d | .lsl d | .rol d | .lsr d | .asr d | .ror d | .swap d | .bld d _ | .mov d _
    | .ldX d | .lddY d _ | .lddZ d _ | .lds d _ | .lpmZ d | .elpmZ d | .in_ d _ | .pop d | .ldY d | .ldZ d => [gpr d]
  | .adiw d _ | .sbiw d _ => [pairLow (rdl d), pairHigh (rdl d)]
  | .subi d _ | .sbci d _ | .andi d _ | .ori d _ | .ser d | .sbr d _ | .cbr d _ | .ldi d _ => [hgpr d]
  | .mul _ _ | .muls _ _ | .mulsu _ _ | .fmul _ _ | .fmuls _ _ | .fmulsu _ _ => [0, 1]
  | .movw d _ => [pairLow (egpr d), pairHigh (egpr d)]
  | .ldXp d | .ldMx d => [gpr d, 26, 27]
  | .ldYp d | .ldMy d => [gpr d, 28, 29]
  | .ldZp d | .ldMz d | .lpmZp d | .elpmZp d => [gpr d, 30, 31]
  | .stXp _ | .stMx _ => [26, 27]
  | .stYp _ | .stMy _ => [28, 29]
  | .stZp _ | .stMz _ => [30, 31]
  | .lpm | .elpm => [0]
  | .cp _ _ | .cpc _ _ | .cpi _ _ | .bset _ | .bclr _ | .bst _ _ | .sbi _ _ | .cbi _ _ | .sec | .sez | .sen
    | .sev | .ses | .seh | .set_ | .sei | .clc | .clz | .cln | .clv | .cls | .clh | .clt | .cli | .stX _
    | .stdY _ _ | .stdZ _ _ | .sts _ _ | .spm | .out _ _ | .push _ | .stY _ | .stZ _ | .rjmp _ | .ijmp | .eijmp
    | .jmp _ | .rcall _ | .icall | .eicall | .call _ | .ret | .reti | .brbs _ _ | .brbc _ _ | .cpse _ _
    | .sbrc _ _ | .sbrs _ _ | .sbic _ _ | .sbis _ _ | .brcs _ | .brlo _ | .breq _ | .brmi _ | .brvs _ | .brlt _
    | .brhs _ | .brts _ | .brie _ | .brcc _ | .brsh _ | .brne _ | .brpl _ | .brvc _ | .brge _ | .brhc _
    | .brtc _ | .brid _ | .nop | .sleep | .wdr | .break_ => []

/-- The flags the instruction itself writes, by number (10 R27). A store to the address of SREG writes them all. -/
def flagsWritten (i : Instr) : List IMM3 :=
  match i with
  | .add _ _ | .adc _ _ | .sub _ _ | .subi _ _ | .sbc _ _ | .sbci _ _ | .neg _ | .cp _ _ | .cpc _ _ | .cpi _ _
    | .lsl _ | .rol _ => [0, 1, 2, 3, 4, 5]
  | .adiw _ _ | .sbiw _ _ | .com _ | .lsr _ | .asr _ | .ror _ => [0, 1, 2, 3, 4]
  | .and _ _ | .andi _ _ | .or _ _ | .ori _ _ | .eor _ _ | .inc _ | .dec _ | .tst _ | .clr _ | .sbr _ _
    | .cbr _ _ => [1, 2, 3, 4]
  | .mul _ _ | .muls _ _ | .mulsu _ _ | .fmul _ _ | .fmuls _ _ | .fmulsu _ _ => [0, 1]
  | .bset b | .bclr b => [b]
  | .bst _ _ | .set_ | .clt => [6]
  | .sec | .clc => [0]
  | .sez | .clz => [1]
  | .sen | .cln => [2]
  | .sev | .clv => [3]
  | .ses | .cls => [4]
  | .seh | .clh => [5]
  | .sei | .cli | .reti => [7]
  | .ser _ | .swap _ | .bld _ _ | .sbi _ _ | .cbi _ _ | .mov _ _ | .movw _ _ | .ldi _ _ | .ldX _ | .ldXp _
    | .ldMx _ | .ldYp _ | .ldMy _ | .ldZp _ | .ldMz _ | .lddY _ _ | .lddZ _ _ | .lds _ _ | .stX _ | .stXp _
    | .stMx _ | .stYp _ | .stMy _ | .stZp _ | .stMz _ | .stdY _ _ | .stdZ _ _ | .sts _ _ | .lpm | .lpmZ _
    | .lpmZp _ | .elpm | .elpmZ _ | .elpmZp _ | .spm | .in_ _ _ | .out _ _ | .push _ | .pop _ | .ldY _ | .ldZ _
    | .stY _ | .stZ _ | .rjmp _ | .ijmp | .eijmp | .jmp _ | .rcall _ | .icall | .eicall | .call _ | .ret
    | .brbs _ _ | .brbc _ _ | .cpse _ _ | .sbrc _ _ | .sbrs _ _ | .sbic _ _ | .sbis _ _ | .brcs _ | .brlo _
    | .breq _ | .brmi _ | .brvs _ | .brlt _ | .brhs _ | .brts _ | .brie _ | .brcc _ | .brsh _ | .brne _
    | .brpl _ | .brvc _ | .brge _ | .brhc _ | .brtc _ | .brid _ | .nop | .sleep | .wdr | .break_ => []

/-- The instruction moves SP (20 R76 to R78). -/
def movesSp (i : Instr) : Bool :=
  match i with
  | .push _ | .pop _ | .rcall _ | .icall | .call _ | .ret | .reti => true
  | .add _ _ | .adc _ _ | .adiw _ _ | .sub _ _ | .subi _ _ | .sbc _ _ | .sbci _ _ | .sbiw _ _ | .and _ _
    | .andi _ _ | .or _ _ | .ori _ _ | .eor _ _ | .com _ | .neg _ | .inc _ | .dec _ | .cp _ _ | .cpc _ _
    | .cpi _ _ | .mul _ _ | .muls _ _ | .mulsu _ _ | .fmul _ _ | .fmuls _ _ | .fmulsu _ _ | .tst _ | .clr _
    | .ser _ | .sbr _ _ | .cbr _ _ | .lsl _ | .rol _ | .lsr _ | .asr _ | .ror _ | .swap _ | .bset _ | .bclr _
    | .bst _ _ | .bld _ _ | .sbi _ _ | .cbi _ _ | .sec | .sez | .sen | .sev | .ses | .seh | .set_ | .sei | .clc
    | .clz | .cln | .clv | .cls | .clh | .clt | .cli | .mov _ _ | .movw _ _ | .ldi _ _ | .ldX _ | .ldXp _
    | .ldMx _ | .ldYp _ | .ldMy _ | .ldZp _ | .ldMz _ | .lddY _ _ | .lddZ _ _ | .lds _ _ | .stX _ | .stXp _
    | .stMx _ | .stYp _ | .stMy _ | .stZp _ | .stMz _ | .stdY _ _ | .stdZ _ _ | .sts _ _ | .lpm | .lpmZ _
    | .lpmZp _ | .elpm | .elpmZ _ | .elpmZp _ | .spm | .in_ _ _ | .out _ _ | .ldY _ | .ldZ _ | .stY _ | .stZ _
    | .rjmp _ | .ijmp | .eijmp | .jmp _ | .eicall | .brbs _ _ | .brbc _ _ | .cpse _ _ | .sbrc _ _ | .sbrs _ _
    | .sbic _ _ | .sbis _ _ | .brcs _ | .brlo _ | .breq _ | .brmi _ | .brvs _ | .brlt _ | .brhs _ | .brts _
    | .brie _ | .brcc _ | .brsh _ | .brne _ | .brpl _ | .brvc _ | .brge _ | .brhc _ | .brtc _ | .brid _ | .nop
    | .sleep | .wdr | .break_ => false

/-- The data addresses the instruction stores to, in state `s` before it. -/
def storesTo (i : Instr) (s : State) : List Nat :=
  match i with
  | .sbi a _ | .cbi a _ | .out a _ => [32 + a.toNat]
  | .stX _ | .stXp _ => [(s.ptr .x).toNat]
  | .stMx _ => [(s.ptr .x - 1).toNat]
  | .stYp _ | .stY _ => [(s.ptr .y).toNat]
  | .stMy _ => [(s.ptr .y - 1).toNat]
  | .stZp _ | .stZ _ => [(s.ptr .z).toNat]
  | .stMz _ => [(s.ptr .z - 1).toNat]
  | .stdY q _ => [s.readPtrQ .y q]
  | .stdZ q _ => [s.readPtrQ .z q]
  | .sts k _ => [k.toNat]
  | .push _ => [s.sp.toNat]
  | .rcall _ | .icall | .call _ => [s.sp.toNat, (s.sp - 1).toNat]
  | .add _ _ | .adc _ _ | .adiw _ _ | .sub _ _ | .subi _ _ | .sbc _ _ | .sbci _ _ | .sbiw _ _ | .and _ _
    | .andi _ _ | .or _ _ | .ori _ _ | .eor _ _ | .com _ | .neg _ | .inc _ | .dec _ | .cp _ _ | .cpc _ _
    | .cpi _ _ | .mul _ _ | .muls _ _ | .mulsu _ _ | .fmul _ _ | .fmuls _ _ | .fmulsu _ _ | .tst _ | .clr _
    | .ser _ | .sbr _ _ | .cbr _ _ | .lsl _ | .rol _ | .lsr _ | .asr _ | .ror _ | .swap _ | .bset _ | .bclr _
    | .bst _ _ | .bld _ _ | .sec | .sez | .sen | .sev | .ses | .seh | .set_ | .sei | .clc | .clz | .cln | .clv
    | .cls | .clh | .clt | .cli | .mov _ _ | .movw _ _ | .ldi _ _ | .ldX _ | .ldXp _ | .ldMx _ | .ldYp _
    | .ldMy _ | .ldZp _ | .ldMz _ | .lddY _ _ | .lddZ _ _ | .lds _ _ | .lpm | .lpmZ _ | .lpmZp _ | .elpm
    | .elpmZ _ | .elpmZp _ | .spm | .in_ _ _ | .pop _ | .ldY _ | .ldZ _ | .rjmp _ | .ijmp | .eijmp | .jmp _
    | .eicall | .ret | .reti | .brbs _ _ | .brbc _ _ | .cpse _ _ | .sbrc _ _ | .sbrs _ _ | .sbic _ _ | .sbis _ _
    | .brcs _ | .brlo _ | .breq _ | .brmi _ | .brvs _ | .brlt _ | .brhs _ | .brts _ | .brie _ | .brcc _
    | .brsh _ | .brne _ | .brpl _ | .brvc _ | .brge _ | .brhc _ | .brtc _ | .brid _ | .nop | .sleep | .wdr
    | .break_ => []

end Sys2Proof.Machine
end

