-- ==== Sys2Proof/Machine/Driver.lean ====
section
/-! DEFINITION. The driver's view (60 R508, R520, R526): between two steps it may enter an interrupt, when I is 1. Which, and
when, is its own choice (60 R522, R523; log 9), so a run is a list of its events. -/

namespace Sys2Proof.Machine

/-- One event of the driver: run one instruction, or enter interrupt `n` if interrupts are enabled. -/
inductive DriverEvent where
  | instruction
  | interrupt (n : Nat)
  deriving DecidableEq, Repr

/-- What one event does, for a vector map. The driver checks the precondition of interrupt entry, `I = 1`: with I clear it
does not enter, and nothing happens (60 R520). -/
def driverStep (vector : Nat → Nat) (e : DriverEvent) (s : State) : Outcome :=
  match e with
  | .instruction => step s
  | .interrupt n => if s.flags.i then s.invokeInterrupt vector n else .next s

/-- How a run ends: its events done, or stopped by the first fault, which comes with the state that met it, unchanged (60
R508). -/
inductive RunResult where
  | ended (s : State)
  | faulted (s : State) (fault : Fault)
  | refused (s : State) (refusal : Refusal)
  deriving DecidableEq, Repr

/-- A run of events (60 R508). -/
def driverRun (vector : Nat → Nat) (events : List DriverEvent) (s : State) : RunResult :=
  match events with
  | [] => .ended s
  | e :: rest =>
    match driverStep vector e s with
    | .next t => driverRun vector rest t
    | .fault f => .faulted s f
    | .refused r => .refused s r

end Sys2Proof.Machine
end

