-- ==== Sys2Proof/Safety.lean ====
section
/-! DEFINITION. What counts as a well-formed state and a safe run, in the terms the statements use. -/

namespace Sys2Proof.Machine

/-- The core owns the I/O index: SREG, SPL, SPH, or RAMPZ where it exists (20 R66). -/
def Device.ownsIo (d : Device) (i : Nat) : Bool :=
  i == d.sregIo || i == d.splIo || i == d.sphIo || (d.hasRampz && i == d.rampzIo)

/-- The I/O index is a storage byte: inside the region, not the core's, no handler plugged in (10 R32). -/
def Device.storesIo (d : Device) (i : Nat) : Bool :=
  decide (i < d.nIo) && !Device.ownsIo d i && decide (i ∉ d.plugged)

/-- The invariant of the core between two steps: the parameters meet 00 R11, the three memories keep their canonical form
and list only addresses that exist, and `pc` is even, below `2^PC_BITS` and equal to `nextpc` (10 R24, R25, R36). -/
structure State.Inv (s : State) : Prop where
  dev_wf : s.dev.wf = true
  io_wf : s.io.wf = true
  ram_wf : s.ram.wf = true
  flash_wf : s.flash.wf = true
  io_keys : ∀ cell ∈ s.io, Device.storesIo s.dev cell.1 = true
  ram_keys : ∀ cell ∈ s.ram, 32 + s.dev.nIo ≤ cell.1 ∧ cell.1 < s.dev.segSize
  flash_keys : ∀ cell ∈ s.flash, cell.1 < s.dev.flashBytes
  pc_even : s.pc % 2 = 0
  pc_lt : s.pc < s.dev.pcMod
  nextpc_eq : s.nextpc = s.pc

/-- A run of the driver's events that meets no fault and no refusal (60 R508). -/
def SafeRun (vector : Nat → Nat) (events : List DriverEvent) (s : State) : Prop :=
  ∃ t, driverRun vector events s = .ended t

end Sys2Proof.Machine
end

