-- ==== Sys2Proof/Certificates/Slice0/Obligations.lean ====
section
/-! DEFINITION. The statements for the provers. They speak of every state, reachable or not, and of every device
parameter, unless a hypothesis says otherwise. -/

section

open Sys2Proof Sys2Proof.Machine

/-! ### Decoding, encoding, fetch -/

/-- 10 R33, 30 R102: when the bytes at `pc` decode to an instruction and lie in program memory, a step sets `nextpc` past
them, executes the instruction, and on a next state moves `pc` to `nextpc`; a fault of the instruction is the step's. -/
def Obligations.StepRunsDecodedInstruction : Prop :=
  ∀ (s : State) (i : Instr) (rest : List Byte),
    decode [s.flash.read s.pc, s.flash.read (s.pc + 1), s.flash.read (s.pc + 2), s.flash.read (s.pc + 3)]
      = .ok (i, rest) →
    s.pc + (4 - rest.length) ≤ s.dev.flashBytes →
    i.wellFormed = true ∧
    step s =
      match exec i { s with nextpc := (s.pc + (4 - rest.length)) % s.dev.pcMod } with
      | .next t => .next { t with pc := t.nextpc }
      | .fault e => .fault e
      | .refused r => .refused r

/-- 60 R507 points 1 to 3: the faults of fetch, in their order (the spec's own decision D7). -/
def Obligations.FetchFaultsInOrder : Prop :=
  ∀ s : State,
    (s.dev.flashBytes ≤ s.pc + 1 → step s = .fault (.outOfRange .fetch s.pc)) ∧
    (∀ w0 : Word16, s.pc + 1 < s.dev.flashBytes → w0 = s.flash.read (s.pc + 1) ++ s.flash.read s.pc →
      (decodeFirst w0 = none → step s = .fault (.decodeFailure s.pc w0)) ∧
      (decodeFirst w0 ≠ none → is4 w0 = true → s.dev.flashBytes ≤ s.pc + 3 →
        step s = .fault (.outOfRange .fetch (s.pc + 2))))

/-- 43 R420: an instruction that is no control transfer continues at the address of the following instruction. -/
def Obligations.StepContinuesInLine : Prop :=
  ∀ (s t : State) (i : Instr) (size : Nat),
    s.fetchInstr = .ok (i, size) → isControl i = false → step s = .next t → t.pc = (s.pc + size) % s.dev.pcMod

/-- The words of the spec's own examples decode as the spec says (30 R180, R181; 40 R210, R212; 41 R263; 42 R315, R332;
43 R383, R387; 44 R451). -/
def Obligations.SpecWordsDecode : Prop :=
  decodeWords 0x0C56 0 = some (.add 5 6, 2) ∧
  decodeWords 0x940C 0x0000 = some (.jmp 0, 4) ∧
  decodeWords 0x96FF 0 = some (.adiw 3 63, 2) ∧
  decodeWords 0x9455 0 = some (.asr 5, 2) ∧
  decodeWords 0x905C 0 = some (.ldX 5, 2) ∧
  decodeWords 0xC7FF 0 = some (.rjmp 2047, 2) ∧
  decodeWords 0xD010 0 = some (.rcall 0x010, 2) ∧
  decodeWords 0x0000 0 = some (.nop, 2)

/-- 30 R180: the round trip, for every instruction and every operand; for an alias it gives the expansion. -/
def Obligations.EncodedInstructionDecodes : Prop :=
  ∀ (i : Instr) (rest : List Byte),
    decode (encodeBytes i ++ rest) = .ok (expansion i, rest) ∧
    (i.wellFormed = true → decode (encodeBytes i ++ rest) = .ok (i, rest))

/-- 30 R162: no bit of a decoded instruction is dropped, since the instruction encodes to the bytes it came from. -/
def Obligations.DecodedInstructionEncodes : Prop :=
  ∀ (bytes : List Byte) (i : Instr) (rest : List Byte),
    decode bytes = .ok (i, rest) → i.wellFormed = true ∧ encodeBytes i ++ rest = bytes

/-- 30 R140: the 91 rows are pairwise disjoint, and `decodeFirst` answers the one row a word fits. -/
def Obligations.OpcodeRowsAreDisjoint : Prop :=
  opcodeRows.length = 91 ∧
  ∀ w0 : Word16,
    (∀ r1 ∈ opcodeRows, ∀ r2 ∈ opcodeRows, r1.fits w0 = true → r2.fits w0 = true → r1 = r2) ∧
    (∀ row ∈ opcodeRows, row.fits w0 = true → decodeFirst w0 = some row.mnemonic) ∧
    ((∀ row ∈ opcodeRows, row.fits w0 = false) → decodeFirst w0 = none)

/-- 30 R109: the decision tree computes the opcode table, on every word. -/
def Obligations.DecisionTreeDecodesTheTable : Prop := ∀ w0 : Word16, treeDecode w0 = decodeFirst w0

/-- 30 R100: the size is 2 or 4 bytes, and 4 for JMP, CALL, LDS and STS exactly. -/
def Obligations.FourByteInstructionsAreFour : Prop :=
  ∀ (w0 : Word16) (m : Mnemonic), decodeFirst w0 = some m →
    sizeOfWord w0 = if m = .jmp ∨ m = .call ∨ m = .lds ∨ m = .sts then 4 else 2

/-- 30 R172: each alias assembles to exactly the bits of its expansion, decodes as the expansion
(the spec's own decision D9, log 13), and has its effect. -/
def Obligations.AliasesAreTheirExpansions : Prop :=
  ∀ (i : Instr) (s : State),
    encode i = encode (expansion i) ∧ decode (encodeBytes i) = .ok (expansion i, []) ∧
    exec i s = exec (expansion i) s ∧ (i.isAlias = false → expansion i = i) ∧ (expansion i).isAlias = false

/-! ### Reset and the invariant -/

/-- 10 R40, R41, R42, R44, the spec's own decision D6: the values the spec gives the state after reset. The device
parameters there are the defaults of 00 R11, the model's choice (log 1): among them `UNIMPL_SET` (decision D8) and
`CYC_BASE`, the table of 70 R580 (decision D18). -/
def Obligations.ResetValues : Prop :=
  State.reset.pc = 0 ∧ State.reset.nextpc = 0 ∧
  (∀ b : IMM3, State.reset.flags.bit b = false) ∧ State.reset.sreg = 0x00 ∧
  State.reset.sp = 0x0000 ∧ State.reset.spl = 0x00 ∧ State.reset.sph = 0x00 ∧ State.reset.rampz = 0x00 ∧
  State.reset.cycles = 0 ∧
  (∀ i, State.reset.io.read i = 0x00) ∧
  State.reset.dev = Config.defaultDevice ∧
  (∀ m : Mnemonic, m ∈ State.reset.dev.unimplSet ↔ m ∈ [Mnemonic.break_, .sleep, .spm, .wdr, .eijmp, .eicall]) ∧
  (∀ m : Mnemonic, State.reset.dev.cycBase m =
    if m ∈ State.reset.dev.unimplSet then 0
    else if m ∈ [Mnemonic.call, .ret, .reti] then 4
    else if m ∈ [Mnemonic.lpm, .lpmZ, .lpmZp, .elpm, .elpmZ, .elpmZp, .jmp, .rcall, .icall] then 3
    else if m ∈ [Mnemonic.adiw, .sbiw, .mul, .muls, .mulsu, .fmul, .fmuls, .fmulsu, .sbi, .cbi, .ldX, .ldXp, .ldMx,
      .ldYp, .ldMy, .ldZp, .ldMz, .lddY, .lddZ, .lds, .stX, .stXp, .stMx, .stYp, .stMy, .stZp, .stMz, .stdY, .stdZ, .sts,
      .push, .pop, .rjmp, .ijmp] then 2
    else 1)

/-- The state after reset meets the invariant. That general registers and RAM are 0 in it is the model's choice (logs 2
and 3), on which this does not rest. -/
def Obligations.ResetMeetsInvariant : Prop := State.reset.Inv

/-- Every step keeps the invariant: `pc` even, below `2^PC_BITS` and equal to `nextpc` between steps (10 R24, R25, R36),
the memories in canonical form and inside their regions (20 R60), the parameters as 00 R11 constrains them. -/
def Obligations.StepKeepsInvariant : Prop := ∀ s t : State, s.Inv → step s = .next t → t.Inv

/-- Every run of the driver's events, steps and interrupt entries, in any order (log 9) and for any vector map to even
addresses (log 8; entry is the spec's own decision D17), keeps the invariant (60 R520, R526); and a run that a fault stops
answers the fault with the state that met it, unchanged: the state the events before it end in (60 R508, the spec's own
decision D7). -/
def Obligations.DriverRunKeepsInvariant : Prop :=
  (∀ (vector : Nat → Nat) (events : List DriverEvent) (s : State), (∀ n, vector n % 2 = 0) → s.Inv →
    match driverRun vector events s with
    | .ended t => t.Inv
    | .faulted t _ => t.Inv
    | .refused _ _ => False) ∧
  ∀ (vector : Nat → Nat) (events : List DriverEvent) (s t : State) (e : Fault),
    driverRun vector events s = .faulted t e ↔
      ∃ before event after, events = before ++ event :: after ∧
        driverRun vector before s = .ended t ∧ driverStep vector event t = .fault e

/-- 60 R500: a step answers a next state or a fault, and nothing else. -/
def Obligations.NothingIsRefused : Prop :=
  ∀ s : State, (∀ (i : Instr) (r : Refusal), exec i s ≠ .refused r) ∧ ∀ r : Refusal, step s ≠ .refused r

/-- 60 R503, R504: which instruction raises which fault, and when its address is out of range; an instruction without a
meaning in the spec, on a device whose `UNIMPL_SET` lacks it, stops with the model's own fault (44 R455, log 6). -/
def Obligations.ExecFaultCatalogue : Prop :=
  (∀ (i : Instr) (s : State) (e : Fault), exec i s = .fault e →
    match e with
    | .decodeFailure _ _ => False
    | .unimplemented m => m = i.mnemonic ∧ m ∈ s.dev.unimplSet
    | .unsupplied m => m = i.mnemonic ∧ m ∈ Config.defaultUnimplSet ∧ m ∉ s.dev.unimplSet
    | .unpredictable m => overlapOf i = some m
    | .outOfRange .fetch a => (skipTest i s).isSome = true ∧ a = s.nextpc ∧ s.dev.flashBytes ≤ a + 1
    | .outOfRange .dataRead a =>
        ((loadOperand i s).isSome = true ∨ (∃ d, i = .pop d) ∨ i = .ret ∨ i = .reti) ∧ s.dev.segSize ≤ a
    | .outOfRange .dataWrite a => a ∈ storesTo i s ∧ s.dev.segSize ≤ a
    | .outOfRange .flashRead a => (flashOperand i s).isSome = true ∧ s.dev.flashBytes ≤ a) ∧
  ∀ (i : Instr) (s : State), i.mnemonic ∈ Config.defaultUnimplSet → i.mnemonic ∉ s.dev.unimplSet →
    exec i s = .fault (.unsupplied i.mnemonic)

/-- 44 R452, R453, R454; 42 R341; 43 R385, R389: SLEEP, WDR, BREAK, SPM, EIJMP and EICALL decode with size 2, are in the
default `UNIMPL_SET`, and fault where the device's `UNIMPL_SET` holds them (the rules' own decision D8), as does every
instruction whose mnemonic it holds (60 R502). Two clauses are the model's choice: that one of the six completes on no
device, whatever its `UNIMPL_SET` (44 R455 leaves the meaning to who removes it, log 6), and that a word of 42 R311 whose
mnemonic is in the device's `UNIMPL_SET` reports `Unimplemented` (60 R507 gives both faults one point, log 20). -/
def Obligations.UnimplementedInstructionsFault : Prop :=
  ∀ s : State,
    (∀ p ∈ [((0x9588 : Word16), Instr.sleep, Mnemonic.sleep), (0x95A8, .wdr, .wdr), (0x9598, .break_, .break_),
        (0x95E8, .spm, .spm), (0x9419, .eijmp, .eijmp), (0x9519, .eicall, .eicall)],
      decodeWords p.1 0 = some (p.2.1, 2) ∧ p.2.2 ∈ Config.defaultDevice.unimplSet ∧
      (p.2.2 ∈ s.dev.unimplSet → exec p.2.1 s = .fault (.unimplemented p.2.2)) ∧ ∀ t, exec p.2.1 s ≠ .next t) ∧
    ∀ i : Instr, i.mnemonic ∈ s.dev.unimplSet → exec i s = .fault (.unimplemented i.mnemonic)

/-- 42 R311, 60 R505: an update form whose data register is half of its pointer faults, before anything else; no other
instruction raises that fault (the spec's own decision D13, log 7). Where the device's `UNIMPL_SET` holds the form, such a
word reports `Unimplemented` instead: the model's choice (60 R507 gives both faults one point, log 20). -/
def Obligations.PointerOverlapFaults : Prop :=
  ∀ (i : Instr) (s : State) (m : Mnemonic),
    exec i s = .fault (.unpredictable m) ↔ overlapOf i = some m ∧ s.implements i

/-! ### Memories -/

/-- 20 R62: `MemRead`. -/
def Obligations.DataReadRoutesByAddress : Prop :=
  ∀ (s : State) (a : Nat),
    (∀ h : a < 32, s.memRead a = .ok (s.reg ⟨a, h⟩, s)) ∧
    (32 ≤ a → a < 32 + s.dev.nIo → s.memRead a = .ok (s.ioRead (a - 32))) ∧
    (32 + s.dev.nIo ≤ a → a < s.dev.segSize → s.memRead a = .ok (s.ram.read a, s)) ∧
    (s.dev.segSize ≤ a → s.memRead a = .error (.outOfRange .dataRead a))

/-- 20 R63: `MemWrite`. -/
def Obligations.DataWriteRoutesByAddress : Prop :=
  ∀ (s : State) (a : Nat) (v : Byte),
    (∀ h : a < 32, s.memWrite a v = .ok { s with regs := s.regs.set a v h }) ∧
    (32 ≤ a → a < 32 + s.dev.nIo → s.memWrite a v = .ok (s.ioWrite (a - 32) v)) ∧
    (32 + s.dev.nIo ≤ a → a < s.dev.segSize → s.memWrite a v = .ok { s with ram := s.ram.write a v }) ∧
    (s.dev.segSize ≤ a → s.memWrite a v = .error (.outOfRange .dataWrite a))

/-- 20 R67, R81: a data write is read back at its address and leaves every other data address alone; at a plugged-in
handler it is recorded, and changes nothing else. -/
def Obligations.DataWriteIsReadBack : Prop :=
  ∀ (s t : State) (a : Nat) (v : Byte), s.io.wf = true → s.ram.wf = true → s.memWrite a v = .ok t →
    (s.peek a ≠ none → t.peek a = some v) ∧ (s.peek a = none → t = { s with ioTrace := .write (a - 32) v :: s.ioTrace }) ∧
    ∀ b, b ≠ a → t.peek b = s.peek b

/-- 10 R27: SREG is a view of the eight flags, read and written through its I/O index (whose default is the spec's own
decision D3, log 1). -/
def Obligations.SregIsAViewOfTheFlags : Prop :=
  ∀ (s : State) (v : Byte),
    s.sreg.getLsbD 7 = s.flags.i ∧ s.sreg.getLsbD 6 = s.flags.t ∧ s.sreg.getLsbD 5 = s.flags.h ∧
    s.sreg.getLsbD 4 = s.flags.s ∧ s.sreg.getLsbD 3 = s.flags.v ∧ s.sreg.getLsbD 2 = s.flags.n ∧
    s.sreg.getLsbD 1 = s.flags.z ∧ s.sreg.getLsbD 0 = s.flags.c ∧
    s.ioRead s.dev.sregIo = (s.sreg, s) ∧ (s.ioWrite s.dev.sregIo v).sreg = v ∧
    (∀ b : IMM3, (s.ioWrite s.dev.sregIo v).flags.bit b = v.getLsbD b.toNat) ∧
    s.ioWrite s.dev.sregIo v = { s with flags := (s.ioWrite s.dev.sregIo v).flags } ∧
    Config.defaultDevice.sregIo = 0x3F

/-- 20 R60, R68: `IN Rd, A` is `LDS Rd, 32 + A` and `OUT A, Rr` is `STS 32 + A, Rr`, but for their base cycles. -/
def Obligations.IoAndDataAddressesAgree : Prop :=
  ∀ (s : State) (r : GPR) (a : IMM6), 64 ≤ s.dev.nIo →
    (let lds := Instr.lds r (BitVec.ofNat 16 (32 + a.toNat))
     s.implements (.in_ r a) → s.implements lds →
     ∃ t : State, exec (.in_ r a) s = .next { t with cycles := s.cycles + s.baseCycles (.in_ r a) } ∧
       exec lds s = .next { t with cycles := s.cycles + s.baseCycles lds }) ∧
    (let sts := Instr.sts (BitVec.ofNat 16 (32 + a.toNat)) r
     s.implements (.out a r) → s.implements sts →
     ∃ t : State, exec (.out a r) s = .next { t with cycles := s.cycles + s.baseCycles (.out a r) } ∧
       exec sts s = .next { t with cycles := s.cycles + s.baseCycles sts })

/-- 20 R72, R73: a byte and a word of program memory. -/
def Obligations.ProgramMemoryReads : Prop :=
  ∀ (s : State) (a : Nat),
    (a < s.dev.flashBytes → s.flashByte a = .ok (s.flash.read a)) ∧
    (s.dev.flashBytes ≤ a → s.flashByte a = .error (.outOfRange .flashRead a)) ∧
    (a + 1 < s.dev.flashBytes →
      ∃ w : Word16, s.flash16 a = .ok w ∧ w.toNat = 256 * (s.flash.read (a + 1)).toNat + (s.flash.read a).toNat) ∧
    (s.dev.flashBytes ≤ a + 1 → s.flash16 a = .error (.outOfRange .fetch a))

/-- 20 R76, R77, R78: a push writes at SP and leaves SP one lower, whatever the write did to SPL or SPH; a pop moves SP one
higher and then reads there; both wrap (the spec's own decisions D5, D29). -/
def Obligations.StackPrimitives : Prop :=
  ∀ (s : State) (v : Byte),
    (s.sp.toNat < s.dev.segSize → ∃ m t, s.memWrite s.sp.toNat v = .ok m ∧ s.push v = .ok t ∧
      t = { m with spl := t.spl, sph := t.sph } ∧ t.sp.toNat = (s.sp.toNat + 65535) % 65536) ∧
    (s.dev.segSize ≤ s.sp.toNat → s.push v = .error (.outOfRange .dataWrite s.sp.toNat)) ∧
    (s.sp = 0 → ∃ t, s.push v = .ok t ∧ t.reg 0 = v ∧ t.sp = 0xFFFF ∧
      (s.dev.segSize < 65536 → ∀ v', t.push v' = .error (.outOfRange .dataWrite 0xFFFF))) ∧
    (∃ u : State, u = { s with spl := u.spl, sph := u.sph } ∧ u.sp.toNat = (s.sp.toNat + 1) % 65536 ∧
      s.pop = u.memRead u.sp.toNat)

/-! ### The ALU primitives -/

/-- 40 R201: `Add8`. -/
def Obligations.AdditionPrimitive : Prop :=
  ∀ (a b : Byte) (c : Bool) (f : Flags),
    let r := (add8 a b c f).1
    let g := (add8 a b c f).2
    r.toNat = (a.toNat + b.toNat + c.toNat) % 256 ∧
    g.h = decide (15 < a.toNat % 16 + b.toNat % 16 + c.toNat) ∧
    g.c = decide (256 ≤ a.toNat + b.toNat + c.toNat) ∧
    g.v = ((a.getLsbD 7 && b.getLsbD 7 && !r.getLsbD 7) || (!a.getLsbD 7 && !b.getLsbD 7 && r.getLsbD 7)) ∧
    (g.v = true ↔ a.toInt + b.toInt + c.toNat < -128 ∨ 127 < a.toInt + b.toInt + c.toNat) ∧
    g.n = r.getLsbD 7 ∧ g.z = decide ((a.toNat + b.toNat + c.toNat) % 256 = 0) ∧ g.s = (g.n ^^ g.v) ∧
    g.h = ((a.getLsbD 3 && b.getLsbD 3) || (b.getLsbD 3 && !r.getLsbD 3) || (!r.getLsbD 3 && a.getLsbD 3)) ∧
    g.c = ((a.getLsbD 7 && b.getLsbD 7) || (b.getLsbD 7 && !r.getLsbD 7) || (!r.getLsbD 7 && a.getLsbD 7)) ∧
    g.t = f.t ∧ g.i = f.i

/-- 40 R202, R203: `Sub8` and `Sub8PZ`. -/
def Obligations.SubtractionPrimitives : Prop :=
  ∀ (a b : Byte) (c : Bool) (f : Flags),
    let r := (sub8 a b c f).1
    let g := (sub8 a b c f).2
    ((r.toNat : Int) = ((a.toNat : Int) - b.toNat - c.toNat) % 256 ∧
    g.h = decide (a.toNat % 16 < b.toNat % 16 + c.toNat) ∧
    g.c = decide (a.toNat < b.toNat + c.toNat) ∧
    g.v = ((a.getLsbD 7 && !b.getLsbD 7 && !r.getLsbD 7) || (!a.getLsbD 7 && b.getLsbD 7 && r.getLsbD 7)) ∧
    (g.v = true ↔ a.toInt - b.toInt - c.toNat < -128 ∨ 127 < a.toInt - b.toInt - c.toNat) ∧
    g.n = r.getLsbD 7 ∧ g.z = decide (r.toNat = 0) ∧ g.s = (g.n ^^ g.v) ∧
    g.h = ((!a.getLsbD 3 && b.getLsbD 3) || (b.getLsbD 3 && r.getLsbD 3) || (r.getLsbD 3 && !a.getLsbD 3)) ∧
    g.c = ((!a.getLsbD 7 && b.getLsbD 7) || (b.getLsbD 7 && r.getLsbD 7) || (r.getLsbD 7 && !a.getLsbD 7)) ∧
    g.t = f.t ∧ g.i = f.i) ∧
    (sub8pz a b c f).1 = r ∧ (sub8pz a b c f).2 = { g with z := decide (r.toNat = 0) && f.z }

/-- 41 R260, R261: `ShiftLeft8`, equal to `Add8` of the value with itself, and `ShiftRight8`. -/
def Obligations.ShiftPrimitives : Prop :=
  ∀ (v : Byte) (inj : Bool) (f : Flags),
    (let r := (shiftLeft8 v inj f).1
     let g := (shiftLeft8 v inj f).2
     r.toNat = (2 * v.toNat + inj.toNat) % 256 ∧ g.c = v.getLsbD 7 ∧ g.h = v.getLsbD 3 ∧ g.n = r.getLsbD 7 ∧
     g.z = decide (r.toNat = 0) ∧ g.v = (g.n ^^ g.c) ∧ g.s = (g.n ^^ g.v) ∧ g.t = f.t ∧ g.i = f.i) ∧
    shiftLeft8 v inj f = add8 v v inj f ∧
    (let r := (shiftRight8 v inj f).1
     let g := (shiftRight8 v inj f).2
     r.toNat = v.toNat / 2 + 128 * inj.toNat ∧ g.c = v.getLsbD 0 ∧ g.n = r.getLsbD 7 ∧ g.n = inj ∧
     g.z = decide (r.toNat = 0) ∧ g.v = (g.n ^^ g.c) ∧ g.s = (g.n ^^ g.v) ∧ g.s = g.c ∧ g.h = f.h ∧ g.t = f.t ∧
     g.i = f.i)

/-! ### Arithmetic and logic: every instruction completes, with this next state -/

/-- 40 R210, R211, R241, R242: ADD, ADC, LSL, ROL. -/
def Obligations.AdditionsComplete : Prop :=
  ∀ (s : State) (d r : GPR),
    ∀ p ∈ [(Instr.add d r, exactAdd (s.reg (gpr d)) (s.reg (gpr r)) false s.flags),
        (.adc d r, exactAdd (s.reg (gpr d)) (s.reg (gpr r)) s.flags.c s.flags),
        (.lsl d, exactAdd (s.reg (gpr d)) (s.reg (gpr d)) false s.flags),
        (.rol d, exactAdd (s.reg (gpr d)) (s.reg (gpr d)) s.flags.c s.flags)],
      s.implements p.1 → exec p.1 s = .next { s with
        regs := s.regs.set (gpr d).val p.2.1, flags := p.2.2, cycles := s.cycles + s.baseCycles p.1 }

/-- 40 R213 to R216, R224: SUB, SUBI, SBC, SBCI, NEG. -/
def Obligations.SubtractionsComplete : Prop :=
  ∀ (s : State) (d r : GPR) (h : HGPR) (k : IMM8),
    ∀ p ∈ [(Instr.sub d r, gpr d, exactSub (s.reg (gpr d)) (s.reg (gpr r)) false true s.flags),
        (.subi h k, hgpr h, exactSub (s.reg (hgpr h)) k false true s.flags),
        (.sbc d r, gpr d, exactSub (s.reg (gpr d)) (s.reg (gpr r)) s.flags.c s.flags.z s.flags),
        (.sbci h k, hgpr h, exactSub (s.reg (hgpr h)) k s.flags.c s.flags.z s.flags),
        (.neg d, gpr d, exactSub 0 (s.reg (gpr d)) false true s.flags)],
      s.implements p.1 → exec p.1 s = .next { s with
        regs := s.regs.set p.2.1.val p.2.2.1, flags := p.2.2.2, cycles := s.cycles + s.baseCycles p.1 }

/-- 40 R227, R228, R229: CP, CPC, CPI write flags alone. -/
def Obligations.ComparesComplete : Prop :=
  ∀ (s : State) (d r : GPR) (h : HGPR) (k : IMM8),
    ∀ p ∈ [(Instr.cp d r, (exactSub (s.reg (gpr d)) (s.reg (gpr r)) false true s.flags).2),
        (.cpc d r, (exactSub (s.reg (gpr d)) (s.reg (gpr r)) s.flags.c s.flags.z s.flags).2),
        (.cpi h k, (exactSub (s.reg (hgpr h)) k false true s.flags).2)],
      s.implements p.1 → exec p.1 s = .next { s with flags := p.2, cycles := s.cycles + s.baseCycles p.1 }

/-- 40 R218 to R222, R236, R237, R239, R240: AND, ANDI, OR, ORI, EOR, TST, CLR, SBR, CBR. -/
def Obligations.LogicCompletes : Prop :=
  ∀ (s : State) (d r : GPR) (h : HGPR) (k : IMM8),
    (∀ p ∈ [(Instr.and d r, s.reg (gpr d) &&& s.reg (gpr r)), (.or d r, s.reg (gpr d) ||| s.reg (gpr r)),
        (.eor d r, s.reg (gpr d) ^^^ s.reg (gpr r)), (.tst d, s.reg (gpr d)), (.clr d, 0x00)],
      s.implements p.1 →
      exec p.1 s = .next { s with
        regs := s.regs.set (gpr d).val p.2
        flags := (exactLogic p.2 s.flags).2
        cycles := s.cycles + s.baseCycles p.1 }) ∧
    (∀ p ∈ [(Instr.andi h k, s.reg (hgpr h) &&& k), (.ori h k, s.reg (hgpr h) ||| k), (.sbr h k, s.reg (hgpr h) ||| k),
        (.cbr h k, s.reg (hgpr h) &&& (0xFF - k))],
      s.implements p.1 →
      exec p.1 s = .next { s with
        regs := s.regs.set (hgpr h).val p.2
        flags := (exactLogic p.2 s.flags).2
        cycles := s.cycles + s.baseCycles p.1 })

/-- 40 R223, R225, R226: COM, INC, DEC; COM sets C, the other two keep it, all keep H. -/
def Obligations.OneRegisterArithmeticCompletes : Prop :=
  ∀ (s : State) (d : GPR),
    (s.implements (.com d) → ∃ r : Byte, r.toNat = 255 - (s.reg (gpr d)).toNat ∧
      exec (.com d) s = .next { s with
        regs := s.regs.set (gpr d).val r
        flags := { (exactLogic r s.flags).2 with c := true }
        cycles := s.cycles + s.baseCycles (.com d) }) ∧
    ∀ p ∈ [(Instr.inc d, 1), (.dec d, -1)],
      let x := exactStep (s.reg (gpr d)) p.2 s.flags
      s.implements p.1 → exec p.1 s = .next { s with
        regs := s.regs.set (gpr d).val x.1, flags := x.2, cycles := s.cycles + s.baseCycles p.1 }

/-- 40 R212, R217: ADIW, SBIW write both registers of the pair. -/
def Obligations.WordArithmeticCompletes : Prop :=
  ∀ (s : State) (d : RDL) (k : IMM6),
    ∀ p ∈ [(Instr.adiw d k, (k.toNat : Int)), (.sbiw d k, -(k.toNat : Int))],
      let x := exactWord (s.pair (rdl d)) p.2 s.flags
      s.implements p.1 → exec p.1 s = .next { s with
        regs :=
          (s.regs.set (pairLow (rdl d)).val (x.1.extractLsb' 0 8)).set (pairHigh (rdl d)).val (x.1.extractLsb' 8 8)
        flags := x.2
        cycles := s.cycles + s.baseCycles p.1 }

/-- 40 R230 to R235: the six multiplies; the product is in r1:r0, its low byte in r0. -/
def Obligations.MultipliesComplete : Prop :=
  ∀ (s : State) (d r : GPR) (hd hr : HGPR) (md mr : MGPR),
    ∀ p ∈ [(Instr.mul d r, false, ((s.reg (gpr d)).toNat : Int) * (s.reg (gpr r)).toNat),
        (.muls hd hr, false, (s.reg (hgpr hd)).toInt * (s.reg (hgpr hr)).toInt),
        (.mulsu md mr, false, (s.reg (mgpr md)).toInt * (s.reg (mgpr mr)).toNat),
        (.fmul md mr, true, ((s.reg (mgpr md)).toNat : Int) * (s.reg (mgpr mr)).toNat),
        (.fmuls md mr, true, (s.reg (mgpr md)).toInt * (s.reg (mgpr mr)).toInt),
        (.fmulsu md mr, true, (s.reg (mgpr md)).toInt * (s.reg (mgpr mr)).toNat)],
      let x := exactProduct p.2.2 p.2.1 s.flags
      s.implements p.1 →
      exec p.1 s = .next { s with
        regs := (s.regs.set 0 (x.1.extractLsb' 0 8)).set 1 (x.1.extractLsb' 8 8)
        flags := x.2
        cycles := s.cycles + s.baseCycles p.1 }

/-! ### Shifts, bits, moves -/

/-- 41 R262, R263, R264: LSR, ASR, ROR. -/
def Obligations.RightShiftsComplete : Prop :=
  ∀ (s : State) (d : GPR),
    ∀ p ∈ [(Instr.lsr d, false), (.asr d, decide (128 ≤ (s.reg (gpr d)).toNat)), (.ror d, s.flags.c)],
      let x := exactShiftRight (s.reg (gpr d)) p.2 s.flags
      s.implements p.1 →
      exec p.1 s = .next { s with regs := s.regs.set (gpr d).val x.1, flags := x.2, cycles := s.cycles + s.baseCycles p.1 }

/-- 42 R312, R313, R314; 40 R238; 41 R265, R269: MOV, MOVW, LDI, SER, SWAP, BLD write registers alone. -/
def Obligations.RegisterMovesComplete : Prop :=
  ∀ (s : State) (d r : GPR) (dp rp : EGPR) (h : HGPR) (k : IMM8) (b : IMM3),
    (∀ p ∈ [(Instr.mov d r, gpr d, s.reg (gpr r)), (.ldi h k, hgpr h, k), (.ser h, hgpr h, 0xFF)],
      s.implements p.1 → exec p.1 s = .next { s with
        regs := s.regs.set p.2.1.val p.2.2, cycles := s.cycles + s.baseCycles p.1 }) ∧
    (s.implements (.movw dp rp) → exec (.movw dp rp) s = .next { s with
      regs := (s.regs.set (pairLow (egpr dp)).val (s.reg (pairLow (egpr rp)))).set (pairHigh (egpr dp)).val
        (s.reg (pairHigh (egpr rp)))
      cycles := s.cycles + s.baseCycles (.movw dp rp) }) ∧
    (s.implements (.swap d) →
      ∃ v : Byte, v.toNat = 16 * ((s.reg (gpr d)).toNat % 16) + (s.reg (gpr d)).toNat / 16 ∧
        exec (.swap d) s = .next { s with
          regs := s.regs.set (gpr d).val v, cycles := s.cycles + s.baseCycles (.swap d) }) ∧
    (s.implements (.bld d b) →
      ∃ v : Byte, (∀ j, v.getLsbD j = if j = b.toNat then s.flags.t else (s.reg (gpr d)).getLsbD j) ∧
        exec (.bld d b) s = .next { s with
          regs := s.regs.set (gpr d).val v, cycles := s.cycles + s.baseCycles (.bld d b) })

/-- 41 R266 to R268, R272 to R287: BSET, BCLR, BST and the sixteen flag spellings write one flag. -/
def Obligations.FlagWritesComplete : Prop :=
  ∀ (s : State) (b : IMM3) (r : GPR),
    ∀ p ∈ [(Instr.bset b, b, true), (.bclr b, b, false), (.bst r b, 6, (s.reg (gpr r)).getLsbD b.toNat),
        (.sec, 0, true), (.sez, 1, true), (.sen, 2, true), (.sev, 3, true), (.ses, 4, true), (.seh, 5, true),
        (.set_, 6, true), (.sei, 7, true), (.clc, 0, false), (.clz, 1, false), (.cln, 2, false), (.clv, 3, false),
        (.cls, 4, false), (.clh, 5, false), (.clt, 6, false), (.cli, 7, false)],
      s.implements p.1 → ∃ f : Flags, (∀ j : IMM3, f.bit j = if j = p.2.1 then p.2.2 else s.flags.bit j) ∧
        exec p.1 s = .next { s with flags := f, cycles := s.cycles + s.baseCycles p.1 }

/-- 42 R342, R343; 41 R270, R271; 20 R66, R67, R86; 10 R29, R30, R32: reads and writes of the I/O region, and IN, OUT, SBI,
CBI. SPL, SPH and, where the device has it, RAMPZ are each read and written whole at their own index (SREG at its index is
`SregIsAViewOfTheFlags`), and SP is SPH above SPL; the default indices are the spec's own decision D3 (log 1). Any other
index, the RAMPZ index of a device without RAMPZ among them (log 17), is a storage byte where no handler is plugged in
(the default of decision D15). At an index the state holds, IN reads its byte and SBI and CBI write it back with one bit
changed; at a plugged-in handler each makes exactly the calls listed, in order, with the answer a free value: the model's
choice (log 5). SBI and CBI read, then write, by the spec's own decision D16. -/
def Obligations.IoInstructionsComplete : Prop :=
  ∀ (s : State) (r : GPR) (a : IMM6) (a5 : IMM5) (b : IMM3),
    (∀ i v, s.ioPeek i = some v → s.ioRead i = (v, s)) ∧
    (∀ i, s.ioPeek i = none →
      let v := Config.handlerAnswer s.ioTrace s.cycles i
      s.ioRead i = (v, { s with ioTrace := .read i v :: s.ioTrace })) ∧
    (s.dev.wf = true → ∀ v,
      s.ioRead s.dev.splIo = (s.spl, s) ∧ s.ioWrite s.dev.splIo v = { s with spl := v } ∧
      s.ioRead s.dev.sphIo = (s.sph, s) ∧ s.ioWrite s.dev.sphIo v = { s with sph := v } ∧
      (s.dev.hasRampz = true →
        s.ioRead s.dev.rampzIo = (s.rampz, s) ∧ s.ioWrite s.dev.rampzIo v = { s with rampz := v })) ∧
    (∀ i v, i ≠ s.dev.sregIo → i ≠ s.dev.splIo → i ≠ s.dev.sphIo → (s.dev.hasRampz = true → i ≠ s.dev.rampzIo) →
      (i ∉ s.dev.plugged → s.ioRead i = (s.io.read i, s) ∧ s.ioWrite i v = { s with io := s.io.write i v }) ∧
      (i ∈ s.dev.plugged → s.ioPeek i = none ∧ s.ioWrite i v = { s with ioTrace := .write i v :: s.ioTrace })) ∧
    s.sp.toNat = 256 * s.sph.toNat + s.spl.toNat ∧
    (Config.defaultDevice.splIo = 0x3D ∧ Config.defaultDevice.sphIo = 0x3E ∧ Config.defaultDevice.rampzIo = 0x3B ∧
      Config.defaultDevice.hasRampz = true) ∧
    (s.implements (.in_ r a) →
      (∀ v, s.ioPeek a.toNat = some v →
        exec (.in_ r a) s = .next { s with
          regs := s.regs.set (gpr r).val v, cycles := s.cycles + s.baseCycles (.in_ r a) }) ∧
      (s.ioPeek a.toNat = none →
        let v := Config.handlerAnswer s.ioTrace s.cycles a.toNat
        exec (.in_ r a) s = .next { s with
          regs := s.regs.set (gpr r).val v
          ioTrace := .read a.toNat v :: s.ioTrace
          cycles := s.cycles + s.baseCycles (.in_ r a) })) ∧
    (s.implements (.out a r) →
      exec (.out a r) s = .next { s.ioWrite a.toNat (s.reg (gpr r)) with
        cycles := s.cycles + s.baseCycles (.out a r) }) ∧
    ∀ p ∈ [(Instr.sbi a5 b, true), (.cbi a5 b, false)], s.implements p.1 →
      (∀ v, s.ioPeek a5.toNat = some v →
        ∃ w : Byte, (∀ j, w.getLsbD j = if j = b.toNat then p.2 else v.getLsbD j) ∧
          exec p.1 s = .next { s.ioWrite a5.toNat w with cycles := s.cycles + s.baseCycles p.1 }) ∧
      (s.ioPeek a5.toNat = none →
        let v := Config.handlerAnswer s.ioTrace s.cycles a5.toNat
        ∃ w : Byte, (∀ j, w.getLsbD j = if j = b.toNat then p.2 else v.getLsbD j) ∧
          exec p.1 s = .next { s with
            ioTrace := .write a5.toNat w :: .read a5.toNat v :: s.ioTrace
            cycles := s.cycles + s.baseCycles p.1 })

/-! ### Loads, stores, program memory, stack -/

/-- 10 R22, R23; 42 R315 to R324, R346, R347, R352: X, Y and Z are r27:r26, r29:r28 and r31:r30, the odd register the high
byte, read and written; every load completes at an address of the data space, in the state after its pointer update, and
faults above it; LD X, X+, -X, Y+, -Y, Z+, -Z, Y, Z, LDD Y+q, Z+q, LDS. -/
def Obligations.LoadsComplete : Prop :=
  (∀ (s : State) (v : Word16), ∀ p ∈ [(Ptr.x, (26 : Fin 32), (27 : Fin 32)), (.y, 28, 29), (.z, 30, 31)],
    (s.ptr p.1).toNat = 256 * (s.reg p.2.2).toNat + (s.reg p.2.1).toNat ∧
    ∃ low high : Byte, v.toNat = 256 * high.toNat + low.toNat ∧
      s.setPair p.1.pair v = { s with regs := (s.regs.set p.2.1.val low).set p.2.2.val high }) ∧
  ∀ (i : Instr) (s u : State) (d : Fin 32) (ea : Nat), loadOperand i s = some (d, ea, u) → overlapOf i = none →
    s.implements i →
    (ea < s.dev.segSize → ∃ v m, u.memRead ea = .ok (v, m) ∧
      exec i s = .next { m with regs := m.regs.set d.val v, cycles := s.cycles + s.baseCycles i }) ∧
    (s.dev.segSize ≤ ea → exec i s = .fault (.outOfRange .dataRead ea))

/-- 42 R325 to R334, R348, R349, R352: every store completes at an address of the data space, in the state after its
pointer update, with the value read before it, and faults above it; ST X, X+, -X, Y+, -Y, Z+, -Z, Y, Z, STD Y+q, Z+q, STS. -/
def Obligations.StoresComplete : Prop :=
  ∀ (i : Instr) (s u : State) (v : Byte) (ea : Nat), storeOperand i s = some (v, ea, u) → overlapOf i = none →
    s.implements i →
    (ea < s.dev.segSize → ∃ m, u.memWrite ea v = .ok m ∧
      exec i s = .next { m with cycles := s.cycles + s.baseCycles i }) ∧
    (s.dev.segSize ≤ ea → exec i s = .fault (.outOfRange .dataWrite ea))

/-- 42 R335 to R340, R350, R351: LPM and ELPM in their six forms; RAMPZ is kept. The address of ELPM is RAMPZ, masked,
above Z where the device has RAMPZ, and Z alone where it has not (the spec's own decision D14, log 17). -/
def Obligations.ProgramMemoryLoadsComplete : Prop :=
  (∀ s : State,
    (s.dev.hasRampz = true →
      s.elpmAddress = (s.rampz &&& s.dev.rampzMask).toNat * 65536 + (s.ptr .z).toNat) ∧
    (s.dev.hasRampz = false → s.elpmAddress = (s.ptr .z).toNat) ∧
    Config.defaultDevice.rampzMask = 0x01) ∧
  ∀ (i : Instr) (s u : State) (d : Fin 32) (pa : Nat), flashOperand i s = some (d, pa, u) → overlapOf i = none →
    s.implements i →
    (pa < s.dev.flashBytes →
      exec i s = .next { u with regs := u.regs.set d.val (s.flash.read pa), cycles := s.cycles + s.baseCycles i }) ∧
    (s.dev.flashBytes ≤ pa → exec i s = .fault (.outOfRange .flashRead pa))

/-- 42 R344, R345: PUSH and POP complete where SP, and one above SP, are in the data space, and fault elsewhere. -/
def Obligations.StackTransfersComplete : Prop :=
  ∀ (s : State) (r : GPR),
    (s.implements (.push r) →
      (s.sp.toNat < s.dev.segSize → ∃ m, s.push (s.reg (gpr r)) = .ok m ∧
        exec (.push r) s = .next { m with cycles := s.cycles + s.baseCycles (.push r) }) ∧
      (s.dev.segSize ≤ s.sp.toNat → exec (.push r) s = .fault (.outOfRange .dataWrite s.sp.toNat))) ∧
    (s.implements (.pop r) →
      ((s.sp + 1).toNat < s.dev.segSize → ∃ v m, s.pop = .ok (v, m) ∧
        exec (.pop r) s = .next { m with
          regs := m.regs.set (gpr r).val v, cycles := s.cycles + s.baseCycles (.pop r) }) ∧
      (s.dev.segSize ≤ (s.sp + 1).toNat → exec (.pop r) s = .fault (.outOfRange .dataRead (s.sp + 1).toNat)))

/-- 42 R344, R345; 20 R76, R77: with SP in RAM, PUSH then POP brings the byte back, and SP, and nothing else moves but the
byte of RAM, the destination and the cycle counter. -/
def Obligations.PushThenPopReturnsTheByte : Prop :=
  ∀ (s : State) (r d : GPR), s.implements (.push r) → s.implements (.pop d) → s.ram.wf = true →
    32 + s.dev.nIo ≤ s.sp.toNat → s.sp.toNat < s.dev.segSize →
    ∃ t u, exec (.push r) s = .next t ∧ exec (.pop d) t = .next u ∧
      u = { s with
        regs := s.regs.set (gpr d).val (s.reg (gpr r)), ram := s.ram.write s.sp.toNat (s.reg (gpr r))
        cycles := s.cycles + s.baseCycles (.push r) + s.baseCycles (.pop d) }

/-! ### Control transfer -/

/-- 43 R383, R384, R386: RJMP, IJMP, JMP. -/
def Obligations.JumpsComplete : Prop :=
  ∀ (s : State) (k : LREL) (a : PADDR),
    ∀ p ∈ [(Instr.rjmp k, (((s.nextpc : Int) + 2 * k.toInt) % (2 ^ s.dev.pcBits : Nat)).toNat),
        (.ijmp, 2 * (s.ptr .z).toNat % 2 ^ s.dev.pcBits), (.jmp a, 2 * a.toNat % 2 ^ s.dev.pcBits)],
      s.implements p.1 → exec p.1 s = .next { s with nextpc := p.2, cycles := s.cycles + s.baseCycles p.1 }

/-- 43 R381, R387, R388, R390: RCALL, ICALL, CALL complete where both stack bytes are in the data space, the low byte of
the return word address pushed first, and fault where one is not. That ICALL reads Z before the pushes is the model's
inference from 20 R86, operands in registers first, where 43 R388 writes the push first (log 14). -/
def Obligations.CallsComplete : Prop :=
  ∀ (s : State) (k : LREL) (a : PADDR),
    ∀ p ∈ [(Instr.rcall k, (((s.nextpc : Int) + 2 * k.toInt) % (2 ^ s.dev.pcBits : Nat)).toNat),
        (.icall, 2 * (s.ptr .z).toNat % 2 ^ s.dev.pcBits), (.call a, 2 * a.toNat % 2 ^ s.dev.pcBits)],
      s.implements p.1 →
      (s.sp.toNat < s.dev.segSize → (s.sp - 1).toNat < s.dev.segSize →
        ∃ lo hi : Byte, ∃ m t : State, lo.toNat = s.nextpc / 2 % 256 ∧ hi.toNat = s.nextpc / 512 % 256 ∧
          s.push lo = .ok m ∧ m.push hi = .ok t ∧ t.sp = s.sp - 2 ∧
          exec p.1 s = .next { t with nextpc := p.2, cycles := s.cycles + s.baseCycles p.1 }) ∧
      (s.dev.segSize ≤ s.sp.toNat → exec p.1 s = .fault (.outOfRange .dataWrite s.sp.toNat)) ∧
      (s.sp.toNat < s.dev.segSize → s.dev.segSize ≤ (s.sp - 1).toNat →
        exec p.1 s = .fault (.outOfRange .dataWrite (s.sp - 1).toNat))

/-- 43 R382, R391, R392: RET and RETI complete where both bytes above SP are in the data space, the high byte popped
first, and RETI also sets I; they fault where one is not. -/
def Obligations.ReturnsComplete : Prop :=
  ∀ s : State, ∀ i ∈ [Instr.ret, .reti], s.implements i →
    ((s.sp + 1).toNat < s.dev.segSize → (s.sp + 2).toNat < s.dev.segSize →
      ∃ (hi lo : Byte) (m t : State), s.pop = .ok (hi, m) ∧ m.pop = .ok (lo, t) ∧ t.sp = s.sp + 2 ∧
        exec i s = .next { t with
          nextpc := 2 * (256 * hi.toNat + lo.toNat) % 2 ^ s.dev.pcBits
          cycles := s.cycles + s.baseCycles i
          flags := { t.flags with i := t.flags.i || decide (i = .reti) } }) ∧
    (s.dev.segSize ≤ (s.sp + 1).toNat → exec i s = .fault (.outOfRange .dataRead (s.sp + 1).toNat)) ∧
    ((s.sp + 1).toNat < s.dev.segSize → s.dev.segSize ≤ (s.sp + 2).toNat →
      exec i s = .fault (.outOfRange .dataRead (s.sp + 2).toNat))

/-- 43 R381, R382: with both stack bytes in RAM, a RET after a CALL, RCALL or ICALL comes back to the instruction after
the call, for an even return address that sixteen bits of word address hold. -/
def Obligations.ReturnComesBackFromCall : Prop :=
  ∀ (s : State) (i : Instr), (i = .icall ∨ (∃ k, i = .rcall k) ∨ ∃ k, i = .call k) →
    s.implements i → s.implements .ret → s.ram.wf = true → 32 + s.dev.nIo < s.sp.toNat → s.sp.toNat < s.dev.segSize →
    s.nextpc % 2 = 0 → s.nextpc < s.dev.pcMod → s.nextpc < 2 ^ 17 →
    ∃ t u, exec i s = .next t ∧ exec .ret t = .next u ∧ u.nextpc = s.nextpc ∧ u.sp = s.sp ∧ u.regs = s.regs ∧
      u.flags = s.flags ∧ u.io = s.io ∧ u.ioTrace = s.ioTrace ∧ u.rampz = s.rampz ∧
      ∀ a, a ≠ s.sp.toNat → a + 1 ≠ s.sp.toNat → u.peek a = s.peek a

/-- 43 R393, R394, R400 to R417; 70 R581: BRBS, BRBC and the eighteen branch spellings, taken or not. -/
def Obligations.BranchesComplete : Prop :=
  ∀ (i : Instr) (s : State) (taken : Bool) (k : SREL), branchTest i s = some (taken, k) →
    s.implements i →
    exec i s = .next { s with
      nextpc := if taken then (((s.nextpc : Int) + 2 * k.toInt) % (2 ^ s.dev.pcBits : Nat)).toNat else s.nextpc
      cycles := s.cycles + s.baseCycles i + taken.toNat }

/-- 43 R380, R395 to R399: CPSE, SBRC, SBRS, SBIC, SBIS complete when they do not skip, and when the word they skip is in
program memory; they fault when it is not. -/
def Obligations.SkipsComplete : Prop :=
  ∀ (i : Instr) (s u : State) (taken : Bool), skipTest i s = some (taken, u) → s.implements i →
    (taken = false → exec i s = .next { u with cycles := s.cycles + s.baseCycles i }) ∧
    (taken = true → s.nextpc + 1 < s.dev.flashBytes →
      let size := sizeOfWord (s.flash.read (s.nextpc + 1) ++ s.flash.read s.nextpc)
      exec i s = .next { u with
        nextpc := (s.nextpc + size) % 2 ^ s.dev.pcBits, cycles := s.cycles + s.baseCycles i + size / 2 }) ∧
    (taken = true → s.dev.flashBytes ≤ s.nextpc + 1 → exec i s = .fault (.outOfRange .fetch s.nextpc))

/-- 44 R451: NOP, as an instruction and as a step: two zero bytes of program memory advance `pc` by 2 and `cycles` by the
base cycles of NOP, 1 by default. -/
def Obligations.NopCompletes : Prop :=
  decodeWords 0x0000 0 = some (.nop, 2) ∧ Config.defaultDevice.cycBase .nop = 1 ∧
  ∀ s : State, s.implements .nop →
    exec .nop s = .next { s with cycles := s.cycles + s.baseCycles .nop } ∧
    (s.pc + 1 < s.dev.flashBytes → s.flash.read s.pc = 0x00 → s.flash.read (s.pc + 1) = 0x00 →
      step s = .next { s with
        pc := (s.pc + 2) % 2 ^ s.dev.pcBits
        nextpc := (s.pc + 2) % 2 ^ s.dev.pcBits
        cycles := s.cycles + s.baseCycles .nop })

/-! ### Interrupts -/

/-- 60 R520: interrupt entry, for any vector map; the map's default is `4n` (the spec's own decision D17). The operation is
total, and the driver's event is it where the precondition `I = 1` holds. That with `I = 0` the driver's event answers the
unchanged state is the model's choice (log 8): the spec gives no such event. -/
def Obligations.InterruptEntry : Prop :=
  ∀ (s : State) (vector : Nat → Nat) (n : Nat),
    (s.sp.toNat < s.dev.segSize → (s.sp - 1).toNat < s.dev.segSize →
      ∃ lo hi : Byte, ∃ m t : State, lo.toNat = s.pc / 2 % 256 ∧ hi.toNat = s.pc / 512 % 256 ∧
        s.push lo = .ok m ∧ m.push hi = .ok t ∧ t.sp = s.sp - 2 ∧
        s.invokeInterrupt vector n = .next { t with
          flags := { t.flags with i := false }
          nextpc := vector n % 2 ^ s.dev.pcBits, pc := vector n % 2 ^ s.dev.pcBits, cycles := s.cycles + 4 }) ∧
    (s.dev.segSize ≤ s.sp.toNat → s.invokeInterrupt vector n = .fault (.outOfRange .dataWrite s.sp.toNat)) ∧
    (s.sp.toNat < s.dev.segSize → s.dev.segSize ≤ (s.sp - 1).toNat →
      s.invokeInterrupt vector n = .fault (.outOfRange .dataWrite (s.sp - 1).toNat)) ∧
    (s.flags.i = true → driverStep vector (.interrupt n) s = s.invokeInterrupt vector n) ∧
    (s.flags.i = false → driverStep vector (.interrupt n) s = .next s) ∧
    irqVector n = 4 * n

/-- 60 R524: with both stack bytes in RAM, RETI after an entry comes back to the interrupted instruction with SP, every
register and every flag as before, but I, which is set; with the precondition `I = 1` of entry, every flag as before. -/
def Obligations.InterruptReturnComesBack : Prop :=
  ∀ (s : State) (vector : Nat → Nat) (n : Nat),
    s.Inv → s.implements .reti → s.pc < 2 ^ 17 → 32 + s.dev.nIo < s.sp.toNat → s.sp.toNat < s.dev.segSize →
    ∃ t u, s.invokeInterrupt vector n = .next t ∧ t.flags.i = false ∧ exec .reti t = .next u ∧
      u.nextpc = s.pc ∧ u.sp = s.sp ∧ u.regs = s.regs ∧ u.flags = { s.flags with i := true } ∧
      (s.flags.i = true → u.flags = s.flags) ∧ u.rampz = s.rampz ∧ u.io = s.io ∧ u.ioTrace = s.ioTrace ∧
      ∀ a, a ≠ 32 + s.dev.sregIo → a ≠ s.sp.toNat → a + 1 ≠ s.sp.toNat →
        u.peek a = s.peek a

/-! ### Frames -/

/-- Every register but the destination, the updated pointer and a register the instruction stores to is unchanged. -/
def Obligations.RegisterFrame : Prop :=
  ∀ (i : Instr) (s t : State) (q : Fin 32), exec i s = .next t → q ∉ regsWritten i → q.val ∉ storesTo i s →
    t.reg q = s.reg q

/-- Every flag but those the spec names for the instruction is unchanged, unless the instruction stores to SREG. -/
def Obligations.FlagFrame : Prop :=
  ∀ (i : Instr) (s t : State) (b : IMM3), exec i s = .next t → b ∉ flagsWritten i →
    32 + s.dev.sregIo ∉ storesTo i s → t.flags.bit b = s.flags.bit b

/-- Every data address from 32 up reads as before, but the addresses the instruction stores to, SREG's where it writes a
flag, and SPL's and SPH's where it moves SP. -/
def Obligations.MemoryFrame : Prop :=
  ∀ (i : Instr) (s t : State) (a : Nat), exec i s = .next t → 32 ≤ a → a ∉ storesTo i s →
    (a = 32 + s.dev.sregIo → flagsWritten i = []) →
    (a = 32 + s.dev.splIo ∨ a = 32 + s.dev.sphIo → movesSp i = false) →
    t.peek a = s.peek a

/-- The device, program memory and `pc` are unchanged by every instruction; `nextpc` by all but control transfers; SPL,
SPH and RAMPZ by all but the stack instructions and stores to their addresses; `cycles` grows by the base cycles, and by at
most two more for control transfers; the handler calls made so far stay, and at most two are added. -/
def Obligations.SpecialRegisterFrame : Prop :=
  ∀ (i : Instr) (s t : State), exec i s = .next t →
    t.dev = s.dev ∧ t.flash = s.flash ∧ t.pc = s.pc ∧ (isControl i = false → t.nextpc = s.nextpc) ∧
    (movesSp i = false → 32 + s.dev.splIo ∉ storesTo i s → t.spl = s.spl) ∧
    (movesSp i = false → 32 + s.dev.sphIo ∉ storesTo i s → t.sph = s.sph) ∧
    (32 + s.dev.rampzIo ∉ storesTo i s → t.rampz = s.rampz) ∧
    s.cycles + s.baseCycles i ≤ t.cycles ∧
    t.cycles ≤ s.cycles + s.baseCycles i + (if isControl i then 2 else 0) ∧
    ∃ new : List IoAccess, new.length ≤ 2 ∧ t.ioTrace = new ++ s.ioTrace

/-! ### Laws of the whole machine -/

/-- 10 R28, as the spec's decision D21 reads it: an ALU instruction that writes N or V leaves `S = N ^ V`; a direct flag
write of another flag leaves S as it was, and after a direct write of S, N or V, or a write of SREG, the equation need not
hold. -/
def Obligations.SignIsNegativeXorOverflow : Prop :=
  (∀ (i : Instr) (s t : State), exec i s = .next t → 2 ∈ flagsWritten i → 3 ∈ flagsWritten i →
    t.flags.s = (t.flags.n ^^ t.flags.v)) ∧
  (∀ (s t : State) (b : IMM3), b ≠ 4 → exec (.bset b) s = .next t ∨ exec (.bclr b) s = .next t →
    t.flags.s = s.flags.s) ∧
  ∀ i ∈ [Instr.bset 4, .bclr 4, .bset 2, .bclr 2, .bset 3, .bclr 3, .out 0x3F 0],
    ∃ s t : State, s.flags.s = (s.flags.n ^^ s.flags.v) ∧ exec i s = .next t ∧
      t.flags.s ≠ (t.flags.n ^^ t.flags.v)

/-- 40 R203, R227, R228: CP of the low bytes, then CPC of the high bytes, compares two 16-bit numbers: Z says equal, C
unsigned lower, S signed less. -/
def Obligations.CompareChainComparesWords : Prop :=
  ∀ (s t u : State) (j k : EGPR),
    exec (.cp (BitVec.ofNat 5 (2 * j.toNat)) (BitVec.ofNat 5 (2 * k.toNat))) s = .next t →
    exec (.cpc (BitVec.ofNat 5 (2 * j.toNat + 1)) (BitVec.ofNat 5 (2 * k.toNat + 1))) t = .next u →
    u.flags.z = decide (s.pair (egpr j) = s.pair (egpr k)) ∧
    u.flags.c = decide ((s.pair (egpr j)).toNat < (s.pair (egpr k)).toNat) ∧
    u.flags.s = decide ((s.pair (egpr j)).toInt < (s.pair (egpr k)).toInt) ∧ u.regs = s.regs

/-- 40 R210, R211: ADD of the low bytes, then ADC of the high bytes, adds two register pairs; C and V are those of the
16-bit sum, S its exact sign. -/
def Obligations.AddChainAddsWords : Prop :=
  ∀ (s t u : State) (j k : EGPR),
    exec (.add (BitVec.ofNat 5 (2 * j.toNat)) (BitVec.ofNat 5 (2 * k.toNat))) s = .next t →
    exec (.adc (BitVec.ofNat 5 (2 * j.toNat + 1)) (BitVec.ofNat 5 (2 * k.toNat + 1))) t = .next u →
    u.pair (egpr j) = s.pair (egpr j) + s.pair (egpr k) ∧
    u.flags.c = decide (65536 ≤ (s.pair (egpr j)).toNat + (s.pair (egpr k)).toNat) ∧
    u.flags.v = !fitsWord ((s.pair (egpr j)).toInt + (s.pair (egpr k)).toInt) ∧
    u.flags.s = decide ((s.pair (egpr j)).toInt + (s.pair (egpr k)).toInt < 0)

end
end

