-- ==== Sys2Proof/Laws/Memory.lean ====
section
/-! SUPPORT. The laws of the sparse memories: what a write changes, and that every operation keeps the canonical form. -/

namespace Sys2Proof.Machine

@[simp] theorem Memory.read_nil (a : Nat) : Memory.read [] a = Memory.unlisted := rfl

/-- What a well-formed memory with a first entry says. -/
theorem Memory.wf_cons {cell : Host.Cell} {rest : Memory} (h : Memory.wf (cell :: rest) = true) :
    cell.2 ≠ Memory.unlisted ∧ (∀ other ∈ rest, cell.1 < other.1) ∧ Memory.wf rest = true := by
  simp only [Memory.wf, Bool.and_eq_true, bne_iff_ne, List.all_eq_true, decide_eq_true_eq] at h
  exact ⟨h.1.1, h.1.2, h.2⟩

/-- The converse: how a well-formed memory is built. -/
theorem Memory.wf_cons_mk {cell : Host.Cell} {rest : Memory} (hv : cell.2 ≠ Memory.unlisted)
    (hk : ∀ other ∈ rest, cell.1 < other.1) (hr : Memory.wf rest = true) : Memory.wf (cell :: rest) = true := by
  simp only [Memory.wf, Bool.and_eq_true, bne_iff_ne, List.all_eq_true, decide_eq_true_eq]
  exact ⟨⟨hv, hk⟩, hr⟩

/-- An address below every listed one reads as unlisted. -/
theorem Memory.read_below {m : Memory} {a : Nat} (h : ∀ cell ∈ m, a < cell.1) : m.read a = Memory.unlisted := by
  induction m with
  | nil => rfl
  | cons cell rest ih =>
    have := h cell (List.mem_cons_self ..)
    simp only [Memory.read, show ¬ cell.1 = a by omega, if_false]
    exact ih fun other ho => h other (List.mem_cons_of_mem _ ho)

/-- A write leaves every other address alone, in any memory. -/
theorem Memory.read_write_other (m : Memory) {a b : Nat} (v : Byte) (h : b ≠ a) :
    (m.write a v).read b = m.read b := by
  induction m with
  | nil =>
    by_cases hv : v = Memory.unlisted <;> simp [Memory.write, Memory.read, hv, Ne.symm h]
  | cons cell rest ih =>
    by_cases h1 : a < cell.1
    · by_cases hv : v = Memory.unlisted <;> simp [Memory.write, Memory.read, h1, hv, Ne.symm h]
    · by_cases h2 : a = cell.1
      · subst h2
        by_cases hv : v = Memory.unlisted <;> simp [Memory.write, Memory.read, hv, Ne.symm h]
      · simp only [Memory.write, h1, h2, if_false, Memory.read, ih]

/-- A write to a canonical memory is read back. -/
theorem Memory.read_write_same {m : Memory} (h : m.wf = true) (a : Nat) (v : Byte) : (m.write a v).read a = v := by
  induction m with
  | nil => by_cases hv : v = Memory.unlisted <;> simp [Memory.write, Memory.read, hv]
  | cons cell rest ih =>
    obtain ⟨_, hk, hr⟩ := Memory.wf_cons h
    by_cases h1 : a < cell.1
    · by_cases hv : v = Memory.unlisted
      · simp only [Memory.write, h1, hv, if_true]
        refine Memory.read_below fun other ho => ?_
        rcases List.mem_cons.mp ho with rfl | ho
        · exact h1
        · exact Nat.lt_trans h1 (hk other ho)
      · simp [Memory.write, Memory.read, h1, hv]
    · by_cases h2 : a = cell.1
      · subst h2
        by_cases hv : v = Memory.unlisted
        · simp [Memory.write, hv, Memory.read_below hk]
        · simp [Memory.write, Memory.read, hv]
      · simp only [Memory.write, h1, h2, if_false, Memory.read, Ne.symm h2, ih hr]

/-- A write lists no new address but its own. -/
theorem Memory.mem_write {m : Memory} {a : Nat} {v : Byte} {cell : Host.Cell} (h : cell ∈ m.write a v) :
    cell.1 = a ∨ cell ∈ m := by
  induction m with
  | nil =>
    by_cases hv : v = Memory.unlisted <;> simp [Memory.write, hv] at h
    exact .inl (by rw [h])
  | cons first rest ih =>
    simp only [Memory.write] at h
    split at h
    · split at h
      · exact .inr h
      · rcases List.mem_cons.mp h with rfl | h
        · exact .inl rfl
        · exact .inr h
    · split at h
      · split at h
        · exact .inr (List.mem_cons_of_mem _ h)
        · rcases List.mem_cons.mp h with rfl | h
          · exact .inl rfl
          · exact .inr (List.mem_cons_of_mem _ h)
      · rcases List.mem_cons.mp h with rfl | h
        · exact .inr (List.mem_cons_self ..)
        · exact (ih h).imp_right (List.mem_cons_of_mem _)

/-- A write keeps the canonical form. -/
theorem Memory.write_wf {m : Memory} (h : m.wf = true) (a : Nat) (v : Byte) : (m.write a v).wf = true := by
  induction m with
  | nil =>
    by_cases hv : v = Memory.unlisted
    · simp [Memory.write, Memory.wf, hv]
    · simp [Memory.write, Memory.wf, hv]
  | cons cell rest ih =>
    obtain ⟨hv0, hk, hr⟩ := Memory.wf_cons h
    simp only [Memory.write]
    split
    · split
      · exact h
      · rename_i h1 hv
        refine Memory.wf_cons_mk hv (fun other ho => ?_) h
        rcases List.mem_cons.mp ho with rfl | ho
        · exact h1
        · exact Nat.lt_trans h1 (hk other ho)
    · split
      · split
        · exact hr
        · rename_i _ h2 hv
          exact Memory.wf_cons_mk hv (fun other ho => h2 ▸ hk other ho) hr
      · rename_i h1 h2
        refine Memory.wf_cons_mk hv0 (fun other ho => ?_) (ih hr)
        rcases Memory.mem_write ho with he | ho
        · omega
        · exact hk other ho

/-- Equal canonical memories are equal data. -/
theorem Memory.ext_of_read {m n : Memory} (hm : m.wf = true) (hn : n.wf = true) (h : ∀ a, m.read a = n.read a) :
    m = n := by
  induction m generalizing n with
  | nil =>
    cases n with
    | nil => rfl
    | cons cell rest =>
      have := h cell.1
      simp only [Memory.read, if_true] at this
      exact absurd this.symm (Memory.wf_cons hn).1
  | cons cell rest ih =>
    obtain ⟨hv, hk, hr⟩ := Memory.wf_cons hm
    cases n with
    | nil =>
      have := h cell.1
      simp only [Memory.read, if_true] at this
      exact absurd this hv
    | cons cell' rest' =>
      obtain ⟨hv', hk', hr'⟩ := Memory.wf_cons hn
      have key : cell.1 = cell'.1 := by
        rcases Nat.lt_trichotomy cell.1 cell'.1 with hlt | heq | hgt
        · have := h cell.1
          simp only [Memory.read, if_true, show ¬ cell'.1 = cell.1 by omega, if_false] at this
          rw [Memory.read_below fun o ho => Nat.lt_trans hlt (hk' o ho)] at this
          exact absurd this hv
        · exact heq
        · have := h cell'.1
          simp only [Memory.read, if_true, show ¬ cell.1 = cell'.1 by omega, if_false] at this
          rw [Memory.read_below fun o ho => Nat.lt_trans hgt (hk o ho)] at this
          exact absurd this.symm hv'
      have hval : cell.2 = cell'.2 := by
        have := h cell.1
        simpa [Memory.read, key] using this
      have hrest : rest = rest' := by
        refine ih hr hr' fun a => ?_
        by_cases ha : a = cell.1
        · subst ha
          rw [Memory.read_below hk, Memory.read_below (key ▸ hk')]
        · have := h a
          simpa [Memory.read, Ne.symm ha, show ¬ cell'.1 = a by omega] using this
      rw [hrest, show cell = cell' from Prod.ext key hval]

/-- The memories of the state after reset are canonical. -/
theorem State.reset_memories_wf :
    State.reset.io.wf = true ∧ State.reset.ram.wf = true ∧ State.reset.flash.wf = true := by decide

end Sys2Proof.Machine
end

