-- ==== Sys2Proof/Laws/State.lean ====
section
/-! SUPPORT. One lemma per field per named update of the state, true by unfolding, so that no later proof unfolds an update. -/

namespace Sys2Proof.Machine

/-! ### `setReg` -/

@[simp] theorem State.setReg_dev (s : State) (r : Fin 32) (v : Byte) : (s.setReg r v).dev = s.dev := rfl
@[simp] theorem State.setReg_regs (s : State) (r : Fin 32) (v : Byte) : (s.setReg r v).regs = s.regs.set r.val v := rfl
@[simp] theorem State.setReg_flags (s : State) (r : Fin 32) (v : Byte) : (s.setReg r v).flags = s.flags := rfl
@[simp] theorem State.setReg_pc (s : State) (r : Fin 32) (v : Byte) : (s.setReg r v).pc = s.pc := rfl
@[simp] theorem State.setReg_nextpc (s : State) (r : Fin 32) (v : Byte) : (s.setReg r v).nextpc = s.nextpc := rfl
@[simp] theorem State.setReg_spl (s : State) (r : Fin 32) (v : Byte) : (s.setReg r v).spl = s.spl := rfl
@[simp] theorem State.setReg_sph (s : State) (r : Fin 32) (v : Byte) : (s.setReg r v).sph = s.sph := rfl
@[simp] theorem State.setReg_rampz (s : State) (r : Fin 32) (v : Byte) : (s.setReg r v).rampz = s.rampz := rfl
@[simp] theorem State.setReg_cycles (s : State) (r : Fin 32) (v : Byte) : (s.setReg r v).cycles = s.cycles := rfl
@[simp] theorem State.setReg_io (s : State) (r : Fin 32) (v : Byte) : (s.setReg r v).io = s.io := rfl
@[simp] theorem State.setReg_ioTrace (s : State) (r : Fin 32) (v : Byte) : (s.setReg r v).ioTrace = s.ioTrace := rfl
@[simp] theorem State.setReg_ram (s : State) (r : Fin 32) (v : Byte) : (s.setReg r v).ram = s.ram := rfl
@[simp] theorem State.setReg_flash (s : State) (r : Fin 32) (v : Byte) : (s.setReg r v).flash = s.flash := rfl

/-! ### `setPair` -/

@[simp] theorem State.setPair_dev (s : State) (k : Fin 16) (v : Word16) : (s.setPair k v).dev = s.dev := rfl
@[simp] theorem State.setPair_regs (s : State) (k : Fin 16) (v : Word16) : (s.setPair k v).regs = (s.regs.set (2 * k.val) (v.extractLsb' 0 8)).set (2 * k.val + 1) (v.extractLsb' 8 8) := rfl
@[simp] theorem State.setPair_flags (s : State) (k : Fin 16) (v : Word16) : (s.setPair k v).flags = s.flags := rfl
@[simp] theorem State.setPair_pc (s : State) (k : Fin 16) (v : Word16) : (s.setPair k v).pc = s.pc := rfl
@[simp] theorem State.setPair_nextpc (s : State) (k : Fin 16) (v : Word16) : (s.setPair k v).nextpc = s.nextpc := rfl
@[simp] theorem State.setPair_spl (s : State) (k : Fin 16) (v : Word16) : (s.setPair k v).spl = s.spl := rfl
@[simp] theorem State.setPair_sph (s : State) (k : Fin 16) (v : Word16) : (s.setPair k v).sph = s.sph := rfl
@[simp] theorem State.setPair_rampz (s : State) (k : Fin 16) (v : Word16) : (s.setPair k v).rampz = s.rampz := rfl
@[simp] theorem State.setPair_cycles (s : State) (k : Fin 16) (v : Word16) : (s.setPair k v).cycles = s.cycles := rfl
@[simp] theorem State.setPair_io (s : State) (k : Fin 16) (v : Word16) : (s.setPair k v).io = s.io := rfl
@[simp] theorem State.setPair_ioTrace (s : State) (k : Fin 16) (v : Word16) : (s.setPair k v).ioTrace = s.ioTrace := rfl
@[simp] theorem State.setPair_ram (s : State) (k : Fin 16) (v : Word16) : (s.setPair k v).ram = s.ram := rfl
@[simp] theorem State.setPair_flash (s : State) (k : Fin 16) (v : Word16) : (s.setPair k v).flash = s.flash := rfl

/-! ### `setSp` -/

@[simp] theorem State.setSp_dev (s : State) (v : Word16) : (s.setSp v).dev = s.dev := rfl
@[simp] theorem State.setSp_regs (s : State) (v : Word16) : (s.setSp v).regs = s.regs := rfl
@[simp] theorem State.setSp_flags (s : State) (v : Word16) : (s.setSp v).flags = s.flags := rfl
@[simp] theorem State.setSp_pc (s : State) (v : Word16) : (s.setSp v).pc = s.pc := rfl
@[simp] theorem State.setSp_nextpc (s : State) (v : Word16) : (s.setSp v).nextpc = s.nextpc := rfl
@[simp] theorem State.setSp_spl (s : State) (v : Word16) : (s.setSp v).spl = v.extractLsb' 0 8 := rfl
@[simp] theorem State.setSp_sph (s : State) (v : Word16) : (s.setSp v).sph = v.extractLsb' 8 8 := rfl
@[simp] theorem State.setSp_rampz (s : State) (v : Word16) : (s.setSp v).rampz = s.rampz := rfl
@[simp] theorem State.setSp_cycles (s : State) (v : Word16) : (s.setSp v).cycles = s.cycles := rfl
@[simp] theorem State.setSp_io (s : State) (v : Word16) : (s.setSp v).io = s.io := rfl
@[simp] theorem State.setSp_ioTrace (s : State) (v : Word16) : (s.setSp v).ioTrace = s.ioTrace := rfl
@[simp] theorem State.setSp_ram (s : State) (v : Word16) : (s.setSp v).ram = s.ram := rfl
@[simp] theorem State.setSp_flash (s : State) (v : Word16) : (s.setSp v).flash = s.flash := rfl

/-! ### `setAlu` -/

@[simp] theorem State.setAlu_dev (s : State) (r : Fin 32) (out : Byte × Flags) : (s.setAlu r out).dev = s.dev := rfl
@[simp] theorem State.setAlu_regs (s : State) (r : Fin 32) (out : Byte × Flags) : (s.setAlu r out).regs = s.regs.set r.val out.1 := rfl
@[simp] theorem State.setAlu_flags (s : State) (r : Fin 32) (out : Byte × Flags) : (s.setAlu r out).flags = out.2 := rfl
@[simp] theorem State.setAlu_pc (s : State) (r : Fin 32) (out : Byte × Flags) : (s.setAlu r out).pc = s.pc := rfl
@[simp] theorem State.setAlu_nextpc (s : State) (r : Fin 32) (out : Byte × Flags) : (s.setAlu r out).nextpc = s.nextpc := rfl
@[simp] theorem State.setAlu_spl (s : State) (r : Fin 32) (out : Byte × Flags) : (s.setAlu r out).spl = s.spl := rfl
@[simp] theorem State.setAlu_sph (s : State) (r : Fin 32) (out : Byte × Flags) : (s.setAlu r out).sph = s.sph := rfl
@[simp] theorem State.setAlu_rampz (s : State) (r : Fin 32) (out : Byte × Flags) : (s.setAlu r out).rampz = s.rampz := rfl
@[simp] theorem State.setAlu_cycles (s : State) (r : Fin 32) (out : Byte × Flags) : (s.setAlu r out).cycles = s.cycles := rfl
@[simp] theorem State.setAlu_io (s : State) (r : Fin 32) (out : Byte × Flags) : (s.setAlu r out).io = s.io := rfl
@[simp] theorem State.setAlu_ioTrace (s : State) (r : Fin 32) (out : Byte × Flags) : (s.setAlu r out).ioTrace = s.ioTrace := rfl
@[simp] theorem State.setAlu_ram (s : State) (r : Fin 32) (out : Byte × Flags) : (s.setAlu r out).ram = s.ram := rfl
@[simp] theorem State.setAlu_flash (s : State) (r : Fin 32) (out : Byte × Flags) : (s.setAlu r out).flash = s.flash := rfl

/-! ### `setAluPair` -/

@[simp] theorem State.setAluPair_dev (s : State) (k : Fin 16) (out : Word16 × Flags) : (s.setAluPair k out).dev = s.dev := rfl
@[simp] theorem State.setAluPair_regs (s : State) (k : Fin 16) (out : Word16 × Flags) : (s.setAluPair k out).regs = (s.regs.set (2 * k.val) (out.1.extractLsb' 0 8)).set (2 * k.val + 1) (out.1.extractLsb' 8 8) := rfl
@[simp] theorem State.setAluPair_flags (s : State) (k : Fin 16) (out : Word16 × Flags) : (s.setAluPair k out).flags = out.2 := rfl
@[simp] theorem State.setAluPair_pc (s : State) (k : Fin 16) (out : Word16 × Flags) : (s.setAluPair k out).pc = s.pc := rfl
@[simp] theorem State.setAluPair_nextpc (s : State) (k : Fin 16) (out : Word16 × Flags) : (s.setAluPair k out).nextpc = s.nextpc := rfl
@[simp] theorem State.setAluPair_spl (s : State) (k : Fin 16) (out : Word16 × Flags) : (s.setAluPair k out).spl = s.spl := rfl
@[simp] theorem State.setAluPair_sph (s : State) (k : Fin 16) (out : Word16 × Flags) : (s.setAluPair k out).sph = s.sph := rfl
@[simp] theorem State.setAluPair_rampz (s : State) (k : Fin 16) (out : Word16 × Flags) : (s.setAluPair k out).rampz = s.rampz := rfl
@[simp] theorem State.setAluPair_cycles (s : State) (k : Fin 16) (out : Word16 × Flags) : (s.setAluPair k out).cycles = s.cycles := rfl
@[simp] theorem State.setAluPair_io (s : State) (k : Fin 16) (out : Word16 × Flags) : (s.setAluPair k out).io = s.io := rfl
@[simp] theorem State.setAluPair_ioTrace (s : State) (k : Fin 16) (out : Word16 × Flags) : (s.setAluPair k out).ioTrace = s.ioTrace := rfl
@[simp] theorem State.setAluPair_ram (s : State) (k : Fin 16) (out : Word16 × Flags) : (s.setAluPair k out).ram = s.ram := rfl
@[simp] theorem State.setAluPair_flash (s : State) (k : Fin 16) (out : Word16 × Flags) : (s.setAluPair k out).flash = s.flash := rfl

/-! ### `setFlags` -/

@[simp] theorem State.setFlags_dev (s : State) (f : Flags) : (s.setFlags f).dev = s.dev := rfl
@[simp] theorem State.setFlags_regs (s : State) (f : Flags) : (s.setFlags f).regs = s.regs := rfl
@[simp] theorem State.setFlags_flags (s : State) (f : Flags) : (s.setFlags f).flags = f := rfl
@[simp] theorem State.setFlags_pc (s : State) (f : Flags) : (s.setFlags f).pc = s.pc := rfl
@[simp] theorem State.setFlags_nextpc (s : State) (f : Flags) : (s.setFlags f).nextpc = s.nextpc := rfl
@[simp] theorem State.setFlags_spl (s : State) (f : Flags) : (s.setFlags f).spl = s.spl := rfl
@[simp] theorem State.setFlags_sph (s : State) (f : Flags) : (s.setFlags f).sph = s.sph := rfl
@[simp] theorem State.setFlags_rampz (s : State) (f : Flags) : (s.setFlags f).rampz = s.rampz := rfl
@[simp] theorem State.setFlags_cycles (s : State) (f : Flags) : (s.setFlags f).cycles = s.cycles := rfl
@[simp] theorem State.setFlags_io (s : State) (f : Flags) : (s.setFlags f).io = s.io := rfl
@[simp] theorem State.setFlags_ioTrace (s : State) (f : Flags) : (s.setFlags f).ioTrace = s.ioTrace := rfl
@[simp] theorem State.setFlags_ram (s : State) (f : Flags) : (s.setFlags f).ram = s.ram := rfl
@[simp] theorem State.setFlags_flash (s : State) (f : Flags) : (s.setFlags f).flash = s.flash := rfl

/-! ### `enableInterrupts` -/

@[simp] theorem State.enableInterrupts_dev (s : State) : (s.enableInterrupts).dev = s.dev := rfl
@[simp] theorem State.enableInterrupts_regs (s : State) : (s.enableInterrupts).regs = s.regs := rfl
@[simp] theorem State.enableInterrupts_flags (s : State) : (s.enableInterrupts).flags = { s.flags with i := true } := rfl
@[simp] theorem State.enableInterrupts_pc (s : State) : (s.enableInterrupts).pc = s.pc := rfl
@[simp] theorem State.enableInterrupts_nextpc (s : State) : (s.enableInterrupts).nextpc = s.nextpc := rfl
@[simp] theorem State.enableInterrupts_spl (s : State) : (s.enableInterrupts).spl = s.spl := rfl
@[simp] theorem State.enableInterrupts_sph (s : State) : (s.enableInterrupts).sph = s.sph := rfl
@[simp] theorem State.enableInterrupts_rampz (s : State) : (s.enableInterrupts).rampz = s.rampz := rfl
@[simp] theorem State.enableInterrupts_cycles (s : State) : (s.enableInterrupts).cycles = s.cycles := rfl
@[simp] theorem State.enableInterrupts_io (s : State) : (s.enableInterrupts).io = s.io := rfl
@[simp] theorem State.enableInterrupts_ioTrace (s : State) : (s.enableInterrupts).ioTrace = s.ioTrace := rfl
@[simp] theorem State.enableInterrupts_ram (s : State) : (s.enableInterrupts).ram = s.ram := rfl
@[simp] theorem State.enableInterrupts_flash (s : State) : (s.enableInterrupts).flash = s.flash := rfl

/-! ### `disableInterrupts` -/

@[simp] theorem State.disableInterrupts_dev (s : State) : (s.disableInterrupts).dev = s.dev := rfl
@[simp] theorem State.disableInterrupts_regs (s : State) : (s.disableInterrupts).regs = s.regs := rfl
@[simp] theorem State.disableInterrupts_flags (s : State) : (s.disableInterrupts).flags = { s.flags with i := false } := rfl
@[simp] theorem State.disableInterrupts_pc (s : State) : (s.disableInterrupts).pc = s.pc := rfl
@[simp] theorem State.disableInterrupts_nextpc (s : State) : (s.disableInterrupts).nextpc = s.nextpc := rfl
@[simp] theorem State.disableInterrupts_spl (s : State) : (s.disableInterrupts).spl = s.spl := rfl
@[simp] theorem State.disableInterrupts_sph (s : State) : (s.disableInterrupts).sph = s.sph := rfl
@[simp] theorem State.disableInterrupts_rampz (s : State) : (s.disableInterrupts).rampz = s.rampz := rfl
@[simp] theorem State.disableInterrupts_cycles (s : State) : (s.disableInterrupts).cycles = s.cycles := rfl
@[simp] theorem State.disableInterrupts_io (s : State) : (s.disableInterrupts).io = s.io := rfl
@[simp] theorem State.disableInterrupts_ioTrace (s : State) : (s.disableInterrupts).ioTrace = s.ioTrace := rfl
@[simp] theorem State.disableInterrupts_ram (s : State) : (s.disableInterrupts).ram = s.ram := rfl
@[simp] theorem State.disableInterrupts_flash (s : State) : (s.disableInterrupts).flash = s.flash := rfl

/-! ### `charge` -/

@[simp] theorem State.charge_dev (s : State) (m : Mnemonic) : (s.charge m).dev = s.dev := rfl
@[simp] theorem State.charge_regs (s : State) (m : Mnemonic) : (s.charge m).regs = s.regs := rfl
@[simp] theorem State.charge_flags (s : State) (m : Mnemonic) : (s.charge m).flags = s.flags := rfl
@[simp] theorem State.charge_pc (s : State) (m : Mnemonic) : (s.charge m).pc = s.pc := rfl
@[simp] theorem State.charge_nextpc (s : State) (m : Mnemonic) : (s.charge m).nextpc = s.nextpc := rfl
@[simp] theorem State.charge_spl (s : State) (m : Mnemonic) : (s.charge m).spl = s.spl := rfl
@[simp] theorem State.charge_sph (s : State) (m : Mnemonic) : (s.charge m).sph = s.sph := rfl
@[simp] theorem State.charge_rampz (s : State) (m : Mnemonic) : (s.charge m).rampz = s.rampz := rfl
@[simp] theorem State.charge_cycles (s : State) (m : Mnemonic) : (s.charge m).cycles = s.cycles + s.dev.cycBase m := rfl
@[simp] theorem State.charge_io (s : State) (m : Mnemonic) : (s.charge m).io = s.io := rfl
@[simp] theorem State.charge_ioTrace (s : State) (m : Mnemonic) : (s.charge m).ioTrace = s.ioTrace := rfl
@[simp] theorem State.charge_ram (s : State) (m : Mnemonic) : (s.charge m).ram = s.ram := rfl
@[simp] theorem State.charge_flash (s : State) (m : Mnemonic) : (s.charge m).flash = s.flash := rfl

/-! ### `jumpTo` -/

@[simp] theorem State.jumpTo_dev (s : State) (t : Nat) : (s.jumpTo t).dev = s.dev := rfl
@[simp] theorem State.jumpTo_regs (s : State) (t : Nat) : (s.jumpTo t).regs = s.regs := rfl
@[simp] theorem State.jumpTo_flags (s : State) (t : Nat) : (s.jumpTo t).flags = s.flags := rfl
@[simp] theorem State.jumpTo_pc (s : State) (t : Nat) : (s.jumpTo t).pc = s.pc := rfl
@[simp] theorem State.jumpTo_nextpc (s : State) (t : Nat) : (s.jumpTo t).nextpc = t % s.dev.pcMod := rfl
@[simp] theorem State.jumpTo_spl (s : State) (t : Nat) : (s.jumpTo t).spl = s.spl := rfl
@[simp] theorem State.jumpTo_sph (s : State) (t : Nat) : (s.jumpTo t).sph = s.sph := rfl
@[simp] theorem State.jumpTo_rampz (s : State) (t : Nat) : (s.jumpTo t).rampz = s.rampz := rfl
@[simp] theorem State.jumpTo_cycles (s : State) (t : Nat) : (s.jumpTo t).cycles = s.cycles := rfl
@[simp] theorem State.jumpTo_io (s : State) (t : Nat) : (s.jumpTo t).io = s.io := rfl
@[simp] theorem State.jumpTo_ioTrace (s : State) (t : Nat) : (s.jumpTo t).ioTrace = s.ioTrace := rfl
@[simp] theorem State.jumpTo_ram (s : State) (t : Nat) : (s.jumpTo t).ram = s.ram := rfl
@[simp] theorem State.jumpTo_flash (s : State) (t : Nat) : (s.jumpTo t).flash = s.flash := rfl

/-! ### `enter` -/

@[simp] theorem State.enter_dev (s : State) (size : Nat) : (s.enter size).dev = s.dev := rfl
@[simp] theorem State.enter_regs (s : State) (size : Nat) : (s.enter size).regs = s.regs := rfl
@[simp] theorem State.enter_flags (s : State) (size : Nat) : (s.enter size).flags = s.flags := rfl
@[simp] theorem State.enter_pc (s : State) (size : Nat) : (s.enter size).pc = s.pc := rfl
@[simp] theorem State.enter_nextpc (s : State) (size : Nat) : (s.enter size).nextpc = (s.pc + size) % s.dev.pcMod := rfl
@[simp] theorem State.enter_spl (s : State) (size : Nat) : (s.enter size).spl = s.spl := rfl
@[simp] theorem State.enter_sph (s : State) (size : Nat) : (s.enter size).sph = s.sph := rfl
@[simp] theorem State.enter_rampz (s : State) (size : Nat) : (s.enter size).rampz = s.rampz := rfl
@[simp] theorem State.enter_cycles (s : State) (size : Nat) : (s.enter size).cycles = s.cycles := rfl
@[simp] theorem State.enter_io (s : State) (size : Nat) : (s.enter size).io = s.io := rfl
@[simp] theorem State.enter_ioTrace (s : State) (size : Nat) : (s.enter size).ioTrace = s.ioTrace := rfl
@[simp] theorem State.enter_ram (s : State) (size : Nat) : (s.enter size).ram = s.ram := rfl
@[simp] theorem State.enter_flash (s : State) (size : Nat) : (s.enter size).flash = s.flash := rfl

/-! ### `retire` -/

@[simp] theorem State.retire_dev (s : State) : (s.retire).dev = s.dev := rfl
@[simp] theorem State.retire_regs (s : State) : (s.retire).regs = s.regs := rfl
@[simp] theorem State.retire_flags (s : State) : (s.retire).flags = s.flags := rfl
@[simp] theorem State.retire_pc (s : State) : (s.retire).pc = s.nextpc := rfl
@[simp] theorem State.retire_nextpc (s : State) : (s.retire).nextpc = s.nextpc := rfl
@[simp] theorem State.retire_spl (s : State) : (s.retire).spl = s.spl := rfl
@[simp] theorem State.retire_sph (s : State) : (s.retire).sph = s.sph := rfl
@[simp] theorem State.retire_rampz (s : State) : (s.retire).rampz = s.rampz := rfl
@[simp] theorem State.retire_cycles (s : State) : (s.retire).cycles = s.cycles := rfl
@[simp] theorem State.retire_io (s : State) : (s.retire).io = s.io := rfl
@[simp] theorem State.retire_ioTrace (s : State) : (s.retire).ioTrace = s.ioTrace := rfl
@[simp] theorem State.retire_ram (s : State) : (s.retire).ram = s.ram := rfl
@[simp] theorem State.retire_flash (s : State) : (s.retire).flash = s.flash := rfl

/-! ### Views of an updated state -/

@[simp] theorem State.setReg_sreg (s : State) (r : Fin 32) (v : Byte) : (s.setReg r v).sreg = s.sreg := rfl
@[simp] theorem State.setReg_sp (s : State) (r : Fin 32) (v : Byte) : (s.setReg r v).sp = s.sp := rfl
@[simp] theorem State.setPair_sreg (s : State) (k : Fin 16) (v : Word16) : (s.setPair k v).sreg = s.sreg := rfl
@[simp] theorem State.setPair_sp (s : State) (k : Fin 16) (v : Word16) : (s.setPair k v).sp = s.sp := rfl
@[simp] theorem State.setSp_reg (s : State) (v : Word16) (q : Fin 32) : (s.setSp v).reg q = s.reg q := rfl
@[simp] theorem State.setSp_pair (s : State) (v : Word16) (q : Fin 16) : (s.setSp v).pair q = s.pair q := rfl
@[simp] theorem State.setSp_sreg (s : State) (v : Word16) : (s.setSp v).sreg = s.sreg := rfl
@[simp] theorem State.setAlu_sp (s : State) (r : Fin 32) (out : Byte × Flags) : (s.setAlu r out).sp = s.sp := rfl
@[simp] theorem State.setAluPair_sp (s : State) (k : Fin 16) (out : Word16 × Flags) : (s.setAluPair k out).sp = s.sp := rfl
@[simp] theorem State.setFlags_reg (s : State) (f : Flags) (q : Fin 32) : (s.setFlags f).reg q = s.reg q := rfl
@[simp] theorem State.setFlags_pair (s : State) (f : Flags) (q : Fin 16) : (s.setFlags f).pair q = s.pair q := rfl
@[simp] theorem State.setFlags_sp (s : State) (f : Flags) : (s.setFlags f).sp = s.sp := rfl
@[simp] theorem State.enableInterrupts_reg (s : State) (q : Fin 32) : (s.enableInterrupts).reg q = s.reg q := rfl
@[simp] theorem State.enableInterrupts_pair (s : State) (q : Fin 16) : (s.enableInterrupts).pair q = s.pair q := rfl
@[simp] theorem State.enableInterrupts_sp (s : State) : (s.enableInterrupts).sp = s.sp := rfl
@[simp] theorem State.disableInterrupts_reg (s : State) (q : Fin 32) : (s.disableInterrupts).reg q = s.reg q := rfl
@[simp] theorem State.disableInterrupts_pair (s : State) (q : Fin 16) : (s.disableInterrupts).pair q = s.pair q := rfl
@[simp] theorem State.disableInterrupts_sp (s : State) : (s.disableInterrupts).sp = s.sp := rfl
@[simp] theorem State.charge_reg (s : State) (m : Mnemonic) (q : Fin 32) : (s.charge m).reg q = s.reg q := rfl
@[simp] theorem State.charge_pair (s : State) (m : Mnemonic) (q : Fin 16) : (s.charge m).pair q = s.pair q := rfl
@[simp] theorem State.charge_sreg (s : State) (m : Mnemonic) : (s.charge m).sreg = s.sreg := rfl
@[simp] theorem State.charge_sp (s : State) (m : Mnemonic) : (s.charge m).sp = s.sp := rfl
@[simp] theorem State.jumpTo_reg (s : State) (t : Nat) (q : Fin 32) : (s.jumpTo t).reg q = s.reg q := rfl
@[simp] theorem State.jumpTo_pair (s : State) (t : Nat) (q : Fin 16) : (s.jumpTo t).pair q = s.pair q := rfl
@[simp] theorem State.jumpTo_sreg (s : State) (t : Nat) : (s.jumpTo t).sreg = s.sreg := rfl
@[simp] theorem State.jumpTo_sp (s : State) (t : Nat) : (s.jumpTo t).sp = s.sp := rfl
@[simp] theorem State.enter_reg (s : State) (size : Nat) (q : Fin 32) : (s.enter size).reg q = s.reg q := rfl
@[simp] theorem State.enter_pair (s : State) (size : Nat) (q : Fin 16) : (s.enter size).pair q = s.pair q := rfl
@[simp] theorem State.enter_sreg (s : State) (size : Nat) : (s.enter size).sreg = s.sreg := rfl
@[simp] theorem State.enter_sp (s : State) (size : Nat) : (s.enter size).sp = s.sp := rfl
@[simp] theorem State.retire_reg (s : State) (q : Fin 32) : (s.retire).reg q = s.reg q := rfl
@[simp] theorem State.retire_pair (s : State) (q : Fin 16) : (s.retire).pair q = s.pair q := rfl
@[simp] theorem State.retire_sreg (s : State) : (s.retire).sreg = s.sreg := rfl
@[simp] theorem State.retire_sp (s : State) : (s.retire).sp = s.sp := rfl

end Sys2Proof.Machine
end

