-- ==== Sys2Proof/Laws/Registers.lean ====
section
/-! SUPPORT. Reading a register, a pair, SP or SREG after a write of one. -/

namespace Sys2Proof.Machine

/-- A register reads what was written to it, and every other register is as before. -/
theorem State.reg_setReg (s : State) (r q : Fin 32) (v : Byte) : (s.setReg r v).reg q = if q = r then v else s.reg q := by
  simp only [State.reg, State.setReg, Vector.getElem_set, Fin.ext_iff, eq_comm]

@[simp] theorem State.reg_setReg_same (s : State) (r : Fin 32) (v : Byte) : (s.setReg r v).reg r = v := by
  simp [State.reg_setReg]

theorem State.reg_setReg_other (s : State) {r q : Fin 32} (v : Byte) (h : q ≠ r) : (s.setReg r v).reg q = s.reg q := by
  simp [State.reg_setReg, h]

@[simp] theorem pairHigh_ne_pairLow (j k : Fin 16) : pairHigh j ≠ pairLow k := by
  simp only [pairHigh, pairLow, ne_eq, Fin.mk.injEq]
  omega

@[simp] theorem pairLow_ne_pairHigh (j k : Fin 16) : pairLow j ≠ pairHigh k := (pairHigh_ne_pairLow k j).symm

@[simp] theorem pairLow_inj (j k : Fin 16) : pairLow j = pairLow k ↔ j = k := by
  simp only [pairLow, Fin.ext_iff]
  omega

@[simp] theorem pairHigh_inj (j k : Fin 16) : pairHigh j = pairHigh k ↔ j = k := by
  simp only [pairHigh, Fin.ext_iff]
  omega

/-- The two registers of a pair after a write of the pair (10 R22). -/
theorem State.reg_setPair (s : State) (k : Fin 16) (v : Word16) (q : Fin 32) :
    (s.setPair k v).reg q =
      if q = pairHigh k then v.extractLsb' 8 8 else if q = pairLow k then v.extractLsb' 0 8 else s.reg q := by
  simp only [State.setPair, State.reg_setReg]

/-- A word is its high byte above its low byte. -/
theorem word_of_bytes (v : Word16) : v.extractLsb' 8 8 ++ v.extractLsb' 0 8 = v := by
  ext i hi
  simp only [BitVec.getElem_append, BitVec.getElem_extractLsb']
  split
  · simp [BitVec.getLsbD_eq_getElem, hi]
  · rw [← BitVec.getLsbD_eq_getElem]
    congr 1
    omega

/-- A pair reads what was written to it, and every other pair is as before. -/
theorem State.pair_setPair (s : State) (k j : Fin 16) (v : Word16) :
    (s.setPair k v).pair j = if j = k then v else s.pair j := by
  simp only [State.pair, State.reg_setPair, pairHigh_inj, pairLow_inj, pairLow_ne_pairHigh, pairHigh_ne_pairLow,
    if_false]
  split
  · exact word_of_bytes v
  · rfl

/-- SP reads what was written to it (10 R29). -/
@[simp] theorem State.sp_setSp (s : State) (v : Word16) : (s.setSp v).sp = v := word_of_bytes v

/-- A pointer register is one half of the pointer, or the update of the pointer leaves it alone (42 R311). -/
theorem State.reg_setPair_of_not_holds (s : State) {p : Ptr} {q : Fin 32} (v : Word16) (h : p.holds q = false) :
    (s.setPair p.pair v).reg q = s.reg q := by
  simp only [Ptr.holds, Bool.or_eq_false_iff, beq_eq_false_iff_ne, ne_eq] at h
  simp [State.reg_setPair, h.1, h.2]

end Sys2Proof.Machine
end

