-- ==== Sys2Proof/Laws/Ops.lean ====
section
/-! SUPPORT. One lemma for each shared operation of Machine/Ops.lean that says once everything it can do. -/

namespace Sys2Proof.Machine

/-! ### Continuing after an access -/

@[simp] theorem andThen_ok {α : Type} (a : α) (k : α → Outcome) : andThen (.ok a) k = k a := rfl

@[simp] theorem andThen_error {α : Type} (e : Fault) (k : α → Outcome) : andThen (.error e) k = .fault e := rfl

/-- A next state comes from an access that succeeded. -/
theorem andThen_next {α : Type} {r : Except Fault α} {k : α → Outcome} {t : State} (h : andThen r k = .next t) :
    ∃ a, r = .ok a ∧ k a = .next t := by
  cases r with
  | ok a => exact ⟨a, rfl, h⟩
  | error e => cases h

/-- A fault is the access's own, or comes after it. -/
theorem andThen_fault {α : Type} {r : Except Fault α} {k : α → Outcome} {e : Fault} (h : andThen r k = .fault e) :
    r = .error e ∨ ∃ a, r = .ok a ∧ k a = .fault e := by
  cases r with
  | ok a => exact .inr ⟨a, rfl, h⟩
  | error e' => cases h; exact .inl rfl

/-! ### Executing -/

/-- An unimplemented instruction faults, whatever its effect (60 R502). -/
theorem execute_unimplemented {m : Mnemonic} {s : State} (o : Outcome) (h : m ∈ s.dev.unimplSet) :
    execute m s o = .fault (.unimplemented m) := if_pos h

/-- An implemented instruction has its effect, with the base cycles added. -/
theorem execute_completes {m : Mnemonic} {s : State} (t : State) (h : m ∉ s.dev.unimplSet) :
    execute m s (.next t) = .next (t.charge m) := if_neg h

/-- An implemented instruction faults as its effect does. -/
theorem execute_stops {m : Mnemonic} {s : State} (e : Fault) (h : m ∉ s.dev.unimplSet) :
    execute m s (.fault e) = .fault e := if_neg h

/-- An instruction that completes: implemented, its effect completes, and the base cycles are added. -/
theorem execute_next {m : Mnemonic} {s t : State} {o : Outcome} (h : execute m s o = .next t) :
    m ∉ s.dev.unimplSet ∧ ∃ u, o = .next u ∧ t = u.charge m := by
  unfold execute at h
  split at h
  · cases h
  · refine ⟨‹_›, ?_⟩
    cases o <;> cases h
    exact ⟨_, rfl, rfl⟩

/-- An instruction that faults: unimplemented, or implemented and its effect faults. -/
theorem execute_fault {m : Mnemonic} {s : State} {e : Fault} {o : Outcome} (h : execute m s o = .fault e) :
    (m ∈ s.dev.unimplSet ∧ e = .unimplemented m) ∨ (m ∉ s.dev.unimplSet ∧ o = .fault e) := by
  unfold execute at h
  split at h
  · cases h
    exact .inl ⟨‹_›, rfl⟩
  · refine .inr ⟨‹_›, ?_⟩
    cases o <;> cases h
    rfl

/-- `execute` adds no refusal. -/
theorem execute_refused {m : Mnemonic} {s : State} {r : Refusal} {o : Outcome} (h : execute m s o = .refused r) :
    o = .refused r := by
  unfold execute at h
  split at h
  · cases h
  · cases o <;> cases h
    rfl

/-! ### The I/O region -/

/-- A read of the I/O region: the byte the state holds, nothing changed; or a free answer, the call recorded. -/
theorem State.ioRead_cases (s : State) (i : Nat) :
    (∃ v, s.ioPeek i = some v ∧ s.ioRead i = (v, s)) ∨
    (s.ioPeek i = none ∧ i ∈ s.dev.plugged ∧
      s.ioRead i = (Config.handlerAnswer s.ioTrace s.cycles i,
        { s with ioTrace := .read i (Config.handlerAnswer s.ioTrace s.cycles i) :: s.ioTrace })) := by
  unfold State.ioPeek State.ioRead
  split_ifs with h1 h2 h3 h4 h5
  · exact .inl ⟨_, rfl, rfl⟩
  · exact .inl ⟨_, rfl, rfl⟩
  · exact .inl ⟨_, rfl, rfl⟩
  · exact .inl ⟨_, rfl, rfl⟩
  · exact .inr ⟨rfl, h5, rfl⟩
  · exact .inl ⟨_, rfl, rfl⟩

/-- A write of the I/O region: one of the four core registers, a recorded handler call, or a storage byte. -/
theorem State.ioWrite_cases (s : State) (i : Nat) (v : Byte) :
    (i = s.dev.sregIo ∧ s.ioWrite i v = { s with flags := Flags.ofByte v }) ∨
    (i = s.dev.splIo ∧ s.ioWrite i v = { s with spl := v }) ∨
    (i = s.dev.sphIo ∧ s.ioWrite i v = { s with sph := v }) ∨
    (s.dev.hasRampz = true ∧ i = s.dev.rampzIo ∧ s.ioWrite i v = { s with rampz := v }) ∨
    (i ∈ s.dev.plugged ∧ s.ioWrite i v = { s with ioTrace := .write i v :: s.ioTrace }) ∨
    (Device.storesIo s.dev i = true ∨ s.dev.nIo ≤ i) ∧ s.ioWrite i v = { s with io := s.io.write i v } := by
  unfold State.ioWrite
  split_ifs with h1 h2 h3 h4 h5
  · exact .inl ⟨h1, rfl⟩
  · exact .inr (.inl ⟨h2, rfl⟩)
  · exact .inr (.inr (.inl ⟨h3, rfl⟩))
  · exact .inr (.inr (.inr (.inl ⟨h4.1, h4.2, rfl⟩)))
  · exact .inr (.inr (.inr (.inr (.inl ⟨h5, rfl⟩))))
  · refine .inr (.inr (.inr (.inr (.inr ⟨?_, rfl⟩))))
    by_cases hi : i < s.dev.nIo
    · left
      simp only [Device.storesIo, Device.ownsIo, hi, h1, h2, h3, h5, decide_true, Bool.true_and, not_false_eq_true,
        Bool.and_true, Bool.not_eq_true', Bool.or_eq_false_iff, beq_eq_false_iff_ne, ne_eq, true_and]
      simpa using h4
    · exact .inr (by omega)

/-- What no access of the I/O region changes. -/
theorem State.ioRead_fixed (s : State) (i : Nat) :
    ∃ trace, (s.ioRead i).2 = { s with ioTrace := trace } := by
  rcases s.ioRead_cases i with ⟨v, -, h⟩ | ⟨-, -, h⟩ <;> rw [h]
  · exact ⟨s.ioTrace, rfl⟩
  · exact ⟨_, rfl⟩

/-- A write of the I/O region changes neither the registers, the program counters, the cycle counter, RAM nor program
memory. -/
theorem State.ioWrite_fixed (s : State) (i : Nat) (v : Byte) :
    ∃ flags spl sph rampz io trace, s.ioWrite i v =
      { s with flags := flags, spl := spl, sph := sph, rampz := rampz, io := io, ioTrace := trace } := by
  rcases s.ioWrite_cases i v with ⟨-, h⟩ | ⟨-, h⟩ | ⟨-, h⟩ | ⟨-, -, h⟩ | ⟨-, h⟩ | ⟨-, h⟩ <;> rw [h]
  all_goals exact ⟨_, _, _, _, _, _, rfl⟩

/-! ### The data space -/

theorem Device.segSize_ge (d : Device) : 32 + d.nIo ≤ d.segSize := by
  unfold Device.segSize
  omega

/-- A data read that succeeds: inside the data space; the byte the state holds, or a handler's answer. -/
theorem State.memRead_ok {s : State} {a : Nat} {got : Byte × State} (h : s.memRead a = .ok got) :
    a < s.dev.segSize ∧
    ((s.peek a = some got.1 ∧ got.2 = s) ∨
     (32 ≤ a ∧ a < 32 + s.dev.nIo ∧ s.ioPeek (a - 32) = none ∧ a - 32 ∈ s.dev.plugged ∧
        got.1 = Config.handlerAnswer s.ioTrace s.cycles (a - 32) ∧
        got.2 = { s with ioTrace := .read (a - 32) got.1 :: s.ioTrace })) := by
  have hs := Device.segSize_ge s.dev
  unfold State.memRead at h
  unfold State.peek
  split_ifs at h ⊢ with h1 h2 h3
  · cases h
    exact ⟨by omega, .inl ⟨rfl, rfl⟩⟩
  · cases h
    refine ⟨by omega, ?_⟩
    rcases s.ioRead_cases (a - 32) with ⟨v, hv, hr⟩ | ⟨hn, hp, hr⟩ <;> rw [hr]
    · exact .inl ⟨hv, rfl⟩
    · exact .inr ⟨by omega, h2, hn, hp, rfl, rfl⟩
  · cases h
    exact ⟨h3, .inl ⟨rfl, rfl⟩⟩

/-- A data read inside the data space of a byte the state holds answers that byte and changes nothing. -/
theorem State.memRead_of_peek {s : State} {a : Nat} {v : Byte} (h : s.peek a = some v) : s.memRead a = .ok (v, s) := by
  unfold State.peek at h
  unfold State.memRead
  split_ifs at h ⊢ with h1 h2 h3
  · cases h; rfl
  · rcases s.ioRead_cases (a - 32) with ⟨w, hw, hr⟩ | ⟨hn, -, -⟩
    · rw [hr]
      rw [hw] at h
      cases h; rfl
    · rw [hn] at h
      cases h
  · cases h; rfl

/-- A data read faults exactly at and above `SEG_SIZE` (20 R62). -/
theorem State.memRead_error_iff {s : State} {a : Nat} {e : Fault} :
    s.memRead a = .error e ↔ s.dev.segSize ≤ a ∧ e = .outOfRange .dataRead a := by
  have hs := Device.segSize_ge s.dev
  unfold State.memRead
  split_ifs with h1 h2 h3
  · simp; omega
  · simp; omega
  · simp; omega
  · simp only [Except.error.injEq]
    constructor
    · rintro rfl
      exact ⟨by omega, rfl⟩
    · rintro ⟨-, rfl⟩
      rfl

/-- A data write that succeeds: a register, the I/O region or RAM, by address alone (20 R61, R63). -/
theorem State.memWrite_ok {s t : State} {a : Nat} {v : Byte} (h : s.memWrite a v = .ok t) :
    (∃ ha : a < 32, t = s.setReg ⟨a, ha⟩ v) ∨
    (32 ≤ a ∧ a < 32 + s.dev.nIo ∧ t = s.ioWrite (a - 32) v) ∨
    (32 + s.dev.nIo ≤ a ∧ a < s.dev.segSize ∧ t = { s with ram := s.ram.write a v }) := by
  unfold State.memWrite at h
  split_ifs at h with h1 h2 h3 <;> cases h
  · exact .inl ⟨h1, rfl⟩
  · exact .inr (.inl ⟨by omega, h2, rfl⟩)
  · exact .inr (.inr ⟨by omega, h3, rfl⟩)

/-- A data write faults exactly at and above `SEG_SIZE` (20 R63). -/
theorem State.memWrite_error_iff {s : State} {a : Nat} {v : Byte} {e : Fault} :
    s.memWrite a v = .error e ↔ s.dev.segSize ≤ a ∧ e = .outOfRange .dataWrite a := by
  have hs := Device.segSize_ge s.dev
  unfold State.memWrite
  split_ifs with h1 h2 h3
  · simp; omega
  · simp; omega
  · simp; omega
  · simp only [Except.error.injEq]
    constructor
    · rintro rfl
      exact ⟨by omega, rfl⟩
    · rintro ⟨-, rfl⟩
      rfl

/-- A data write inside the data space succeeds. -/
theorem State.memWrite_total {s : State} {a : Nat} (v : Byte) (h : a < s.dev.segSize) : ∃ t, s.memWrite a v = .ok t := by
  cases hw : s.memWrite a v with
  | ok t => exact ⟨t, rfl⟩
  | error e => exact absurd (State.memWrite_error_iff.mp hw).1 (by omega)

/-- What no data write changes: the device, the program counters, the cycle counter and program memory. -/
theorem State.memWrite_fixed {s t : State} {a : Nat} {v : Byte} (h : s.memWrite a v = .ok t) :
    t.dev = s.dev ∧ t.pc = s.pc ∧ t.nextpc = s.nextpc ∧ t.cycles = s.cycles ∧ t.flash = s.flash := by
  rcases State.memWrite_ok h with ⟨_, rfl⟩ | ⟨-, -, rfl⟩ | ⟨-, -, rfl⟩
  · exact ⟨rfl, rfl, rfl, rfl, rfl⟩
  · obtain ⟨_, _, _, _, _, _, h⟩ := s.ioWrite_fixed (a - 32) v
    rw [h]
    exact ⟨rfl, rfl, rfl, rfl, rfl⟩
  · exact ⟨rfl, rfl, rfl, rfl, rfl⟩

/-! ### Program memory -/

/-- A program byte is read inside program memory and nowhere else (20 R72). -/
theorem State.flashByte_cases (s : State) (a : Nat) :
    (a < s.dev.flashBytes ∧ s.flashByte a = .ok (s.flash.read a)) ∨
    (s.dev.flashBytes ≤ a ∧ s.flashByte a = .error (.outOfRange .flashRead a)) := by
  unfold State.flashByte
  split
  · exact .inl ⟨‹_›, rfl⟩
  · exact .inr ⟨by omega, rfl⟩

/-- A program word is read inside program memory and nowhere else (20 R73). -/
theorem State.flash16_cases (s : State) (a : Nat) :
    (a + 1 < s.dev.flashBytes ∧ s.flash16 a = .ok (s.flash.read (a + 1) ++ s.flash.read a)) ∨
    (s.dev.flashBytes ≤ a + 1 ∧ s.flash16 a = .error (.outOfRange .fetch a)) := by
  unfold State.flash16
  split
  · exact .inl ⟨‹_›, rfl⟩
  · exact .inr ⟨by omega, rfl⟩

/-! ### Pointers -/

/-- Reading a pointer changes at most its pair (42 R310). -/
theorem State.readPtr_state (s : State) (p : Ptr) (mode : PtrMode) :
    (s.readPtr p mode).2 = s ∨ ∃ v, (s.readPtr p mode).2 = s.setPair p.pair v := by
  cases mode
  · exact .inl rfl
  · exact .inr ⟨_, rfl⟩
  · exact .inr ⟨_, rfl⟩

/-! ### The stack -/

/-- A push that succeeds: one data write at SP, then SP one lower (20 R76, R78). -/
theorem State.push_ok {s t : State} {v : Byte} (h : s.push v = .ok t) :
    ∃ m, s.memWrite s.sp.toNat v = .ok m ∧ t = m.setSp (s.sp - 1) := by
  unfold State.push at h
  split at h
  · cases h
    exact ⟨_, ‹_›, rfl⟩
  · cases h

/-- A push faults as its data write does. -/
theorem State.push_error {s : State} {v : Byte} {e : Fault} (h : s.push v = .error e) :
    s.dev.segSize ≤ s.sp.toNat ∧ e = .outOfRange .dataWrite s.sp.toNat := by
  unfold State.push at h
  split at h
  · cases h
  · cases h
    exact State.memWrite_error_iff.mp ‹_›

/-- A pop is a data read, one above SP, of the state whose SP has moved (20 R77). -/
theorem State.pop_eq (s : State) : s.pop = (s.setSp (s.sp + 1)).memRead (s.sp + 1).toNat := rfl

/-- A push of a return address: two pushes, the low byte of the word address first (43 R381). -/
theorem State.pushPC_ok {s t : State} {a : Nat} (h : s.pushPC a = .ok t) :
    ∃ m, s.push ((BitVec.ofNat 16 (a / 2)).extractLsb' 0 8) = .ok m ∧
      m.push ((BitVec.ofNat 16 (a / 2)).extractLsb' 8 8) = .ok t := by
  unfold State.pushPC at h
  simp only at h
  split at h
  · exact ⟨_, ‹_›, h⟩
  · cases h

/-- A pop of a return address: two pops, the high byte of the word address first (43 R382). -/
theorem State.popPC_ok {s : State} {got : Nat × State} (h : s.popPC = .ok got) :
    ∃ hi lo m, s.pop = .ok (hi, m) ∧ m.pop = .ok (lo, got.2) ∧ got.1 = (2 * (hi ++ lo).toNat) % s.dev.pcMod := by
  unfold State.popPC at h
  split at h
  · split at h
    · cases h
      exact ⟨_, _, _, ‹_›, ‹_›, rfl⟩
    · cases h
  · cases h

/-! ### The sequencer -/

/-- A skip moves `nextpc` past one instruction, sized by its first word, and adds one cycle a word (43 R380). -/
theorem State.skip_ok {s t : State} (h : s.skip = .ok t) :
    ∃ w, s.flash16 s.nextpc = .ok w ∧
      t = { s with nextpc := (s.nextpc + sizeOfWord w) % s.dev.pcMod, cycles := s.cycles + sizeOfWord w / 2 } := by
  unfold State.skip at h
  split at h
  · rename_i w hw
    refine ⟨w, hw, ?_⟩
    split at h <;> cases h <;> simp [sizeOfWord, *]
  · cases h

/-- A skip faults as its look-ahead fetch does (60 R504). -/
theorem State.skip_error {s : State} {e : Fault} (h : s.skip = .error e) :
    s.dev.flashBytes ≤ s.nextpc + 1 ∧ e = .outOfRange .fetch s.nextpc := by
  unfold State.skip at h
  rcases s.flash16_cases s.nextpc with ⟨-, hw⟩ | ⟨hb, hw⟩ <;> rw [hw] at h
  · simp only at h
    split at h <;> cases h
  · cases h
    exact ⟨hb, rfl⟩

/-! ### Fetch -/

/-- A fetch that succeeds: the words in program memory, the mnemonic of the first, the size it gives (10 R33). -/
theorem State.fetchInstr_ok {s : State} {got : Instr × Nat} (h : s.fetchInstr = .ok got) :
    ∃ w0 w1 m, s.flash16 s.pc = .ok w0 ∧ decodeFirst w0 = some m ∧ got = (build m w0 w1, sizeOfWord w0) ∧
      (if is4 w0 then s.flash16 (s.pc + 2) = .ok w1 else w1 = 0) := by
  unfold State.fetchInstr at h
  split at h
  · cases h
  · rename_i w0 hw0
    split at h
    · cases h
    · rename_i m hm
      split at h
      · rename_i h4
        split at h
        · cases h
        · rename_i w1 hw1
          cases h
          exact ⟨w0, w1, m, hw0, hm, by simp [sizeOfWord, h4], by simp [h4, hw1]⟩
      · rename_i h4
        cases h
        exact ⟨w0, 0, m, hw0, hm, by simp [sizeOfWord, h4], by simp [h4]⟩

end Sys2Proof.Machine
end

