-- ==== Sys2Proof/Laws/PerInstr.lean ====
section
/-! SUPPORT. The per-instruction family WordCount: the encoding of every instruction has the number of words that its
first word announces (30 R100, R101). -/

namespace Sys2Proof.Laws

/-- A first word of two words begins 1001 0 (30 R101). -/
theorem is4_top {w : Word16} (h : is4 w = true) :
    w.getLsbD 15 = true ∧ w.getLsbD 14 = false ∧ w.getLsbD 13 = false ∧ w.getLsbD 12 = true ∧ w.getLsbD 11 = false := by
  simp only [is4, Bool.or_eq_true, beq_iff_eq] at h
  have bit (i : Nat) (p m : Word16) (hw : w &&& m = p) : (w.getLsbD i && m.getLsbD i) = p.getLsbD i := by
    rw [← hw, BitVec.getLsbD_and]
  rcases h with h | h
  · have h15 := bit 15 _ _ h
    have h14 := bit 14 _ _ h
    have h13 := bit 13 _ _ h
    have h12 := bit 12 _ _ h
    have h11 := bit 11 _ _ h
    exact ⟨by simpa using h15, by simpa using h14, by simpa using h13, by simpa using h12, by simpa using h11⟩
  · have h15 := bit 15 _ _ h
    have h14 := bit 14 _ _ h
    have h13 := bit 13 _ _ h
    have h12 := bit 12 _ _ h
    have h11 := bit 11 _ _ h
    exact ⟨by simpa using h15, by simpa using h14, by simpa using h13, by simpa using h12, by simpa using h11⟩

/-! ### Which formats open one word -/

theorem is4_encRdRr (o : BitVec 6) (d r : BitVec 5)
    (ho : (o.getLsbD 5 && !o.getLsbD 4 && !o.getLsbD 3 && o.getLsbD 2 && !o.getLsbD 1) = false) : is4 (encRdRr o d r) = false := by
  refine Bool.eq_false_of_not_eq_true fun h => ?_
  have := is4_top h
  simp only [encRdRr, BitVec.getLsbD_append] at this
  simp at this
  simp [this] at ho

theorem is4_encRdhK8 (o : BitVec 4) (d : BitVec 4) (k : BitVec 8)
    (ho : (o.getLsbD 3 && !o.getLsbD 2 && !o.getLsbD 1 && o.getLsbD 0) = false) : is4 (encRdhK8 o d k) = false := by
  refine Bool.eq_false_of_not_eq_true fun h => ?_
  have := is4_top h
  simp only [encRdhK8, BitVec.getLsbD_append] at this
  simp at this
  simp [this] at ho

theorem is4_encRdlK6 : ∀ (o : BitVec 1) (d : BitVec 2) (k : BitVec 6), is4 (encRdlK6 o d k) = false := by
  decide

theorem is4_encRd : ∀ (o : BitVec 4) (d : BitVec 5), o.extractLsb' 2 2 ≠ 3 → is4 (encRd d o) = false := by decide

theorem is4_encRdP : ∀ (o : BitVec 1) (m : BitVec 4) (d : BitVec 5), m ≠ 0 → is4 (encRdP o d m) = false := by decide

theorem is4_encRdP_direct : ∀ (o : BitVec 1) (d : BitVec 5), is4 (encRdP o d 0) = true := by decide

theorem is4_encK22 (o : BitVec 1) (k : BitVec 22) : is4 (encK22 o k) = true := by
  unfold encK22
  generalize k.extractLsb' 17 5 = a
  generalize k.extractLsb' 16 1 = b
  revert o a b
  decide

theorem is4_encRdhRrh (o : BitVec 8) (d r : BitVec 4) (ho : o.getLsbD 7 = false) : is4 (encRdhRrh o d r) = false := by
  refine Bool.eq_false_of_not_eq_true fun h => ?_
  have := is4_top h
  simp only [encRdhRrh, BitVec.getLsbD_append] at this
  simp at this
  simp [this] at ho

theorem is4_encRdmRrm (u v : BitVec 1) (d r : BitVec 3) : is4 (encRdmRrm u v d r) = false := by
  refine Bool.eq_false_of_not_eq_true fun h => ?_
  have := is4_top h
  simp only [encRdmRrm, BitVec.getLsbD_append] at this
  simp at this

theorem is4_encS3 : ∀ (o : BitVec 1) (b : BitVec 3), is4 (encS3 o b) = false := by decide

theorem is4_encRdB3 (o : BitVec 2) (d : BitVec 5) (b : BitVec 3) : is4 (encRdB3 o d b) = false := by
  refine Bool.eq_false_of_not_eq_true fun h => ?_
  have := is4_top h
  simp only [encRdB3, BitVec.getLsbD_append] at this
  simp at this

theorem is4_encA5B3 (o : BitVec 2) (a : BitVec 5) (b : BitVec 3) : is4 (encA5B3 o a b) = false := by
  refine Bool.eq_false_of_not_eq_true fun h => ?_
  have := is4_top h
  simp only [encA5B3, BitVec.getLsbD_append] at this
  simp at this

theorem is4_encRdA6 (o : BitVec 1) (d : BitVec 5) (a : BitVec 6) : is4 (encRdA6 o d a) = false := by
  refine Bool.eq_false_of_not_eq_true fun h => ?_
  have := is4_top h
  simp only [encRdA6, BitVec.getLsbD_append] at this
  simp at this

theorem is4_encRdPq (o p : BitVec 1) (d : BitVec 5) (q : BitVec 6) : is4 (encRdPq o p d q) = false := by
  refine Bool.eq_false_of_not_eq_true fun h => ?_
  have := is4_top h
  simp only [encRdPq, BitVec.getLsbD_append] at this
  simp at this

theorem is4_encK12 (o : BitVec 1) (k : BitVec 12) : is4 (encK12 o k) = false := by
  refine Bool.eq_false_of_not_eq_true fun h => ?_
  have := is4_top h
  simp only [encK12, BitVec.getLsbD_append] at this
  simp at this

theorem is4_encS3K7 (o : BitVec 1) (k : BitVec 7) (b : BitVec 3) : is4 (encS3K7 o k b) = false := by
  refine Bool.eq_false_of_not_eq_true fun h => ?_
  have := is4_top h
  simp only [encS3K7, BitVec.getLsbD_append] at this
  simp at this

end Sys2Proof.Laws

namespace Sys2Proof.Laws.WordCount

/-- The encoding has as many words as its first word announces: one, or two for JMP, CALL, LDS and STS (30 R101). -/
def Statement (i : Instr) : Prop :=
  ∃ w0 rest, encode i = w0 :: rest ∧ 2 * (encode i).length = sizeOfWord w0

theorem oneWord {i : Instr} {w0 : Word16} (he : encode i = [w0]) (h : is4 w0 = false) : Statement i :=
  ⟨w0, [], he, by simp [he, sizeOfWord, h]⟩

theorem twoWords {i : Instr} {w0 w1 : Word16} (he : encode i = [w0, w1]) (h : is4 w0 = true) : Statement i :=
  ⟨w0, [w1], he, by simp [he, sizeOfWord, h]⟩

theorem add (d : GPR) (r : GPR) : Statement (.add d r) := oneWord rfl (is4_encRdRr _ _ _ rfl)
theorem adc (d : GPR) (r : GPR) : Statement (.adc d r) := oneWord rfl (is4_encRdRr _ _ _ rfl)
theorem adiw (d : RDL) (k : IMM6) : Statement (.adiw d k) := oneWord rfl (is4_encRdlK6 _ _ _)
theorem sub (d : GPR) (r : GPR) : Statement (.sub d r) := oneWord rfl (is4_encRdRr _ _ _ rfl)
theorem subi (d : HGPR) (k : IMM8) : Statement (.subi d k) := oneWord rfl (is4_encRdhK8 _ _ _ rfl)
theorem sbc (d : GPR) (r : GPR) : Statement (.sbc d r) := oneWord rfl (is4_encRdRr _ _ _ rfl)
theorem sbci (d : HGPR) (k : IMM8) : Statement (.sbci d k) := oneWord rfl (is4_encRdhK8 _ _ _ rfl)
theorem sbiw (d : RDL) (k : IMM6) : Statement (.sbiw d k) := oneWord rfl (is4_encRdlK6 _ _ _)
theorem and (d : GPR) (r : GPR) : Statement (.and d r) := oneWord rfl (is4_encRdRr _ _ _ rfl)
theorem andi (d : HGPR) (k : IMM8) : Statement (.andi d k) := oneWord rfl (is4_encRdhK8 _ _ _ rfl)
theorem or (d : GPR) (r : GPR) : Statement (.or d r) := oneWord rfl (is4_encRdRr _ _ _ rfl)
theorem ori (d : HGPR) (k : IMM8) : Statement (.ori d k) := oneWord rfl (is4_encRdhK8 _ _ _ rfl)
theorem eor (d : GPR) (r : GPR) : Statement (.eor d r) := oneWord rfl (is4_encRdRr _ _ _ rfl)
theorem com (d : GPR) : Statement (.com d) := oneWord rfl (is4_encRd _ _ (by decide))
theorem neg (d : GPR) : Statement (.neg d) := oneWord rfl (is4_encRd _ _ (by decide))
theorem inc (d : GPR) : Statement (.inc d) := oneWord rfl (is4_encRd _ _ (by decide))
theorem dec (d : GPR) : Statement (.dec d) := oneWord rfl (is4_encRd _ _ (by decide))
theorem cp (d : GPR) (r : GPR) : Statement (.cp d r) := oneWord rfl (is4_encRdRr _ _ _ rfl)
theorem cpc (d : GPR) (r : GPR) : Statement (.cpc d r) := oneWord rfl (is4_encRdRr _ _ _ rfl)
theorem cpi (d : HGPR) (k : IMM8) : Statement (.cpi d k) := oneWord rfl (is4_encRdhK8 _ _ _ rfl)
theorem mul (d : GPR) (r : GPR) : Statement (.mul d r) := oneWord rfl (is4_encRdRr _ _ _ rfl)
theorem muls (d : HGPR) (r : HGPR) : Statement (.muls d r) := oneWord rfl (is4_encRdhRrh _ _ _ rfl)
theorem mulsu (d : MGPR) (r : MGPR) : Statement (.mulsu d r) := oneWord rfl (is4_encRdmRrm _ _ _ _)
theorem fmul (d : MGPR) (r : MGPR) : Statement (.fmul d r) := oneWord rfl (is4_encRdmRrm _ _ _ _)
theorem fmuls (d : MGPR) (r : MGPR) : Statement (.fmuls d r) := oneWord rfl (is4_encRdmRrm _ _ _ _)
theorem fmulsu (d : MGPR) (r : MGPR) : Statement (.fmulsu d r) := oneWord rfl (is4_encRdmRrm _ _ _ _)
theorem tst (d : GPR) : Statement (.tst d) := oneWord rfl (is4_encRdRr _ _ _ rfl)
theorem clr (d : GPR) : Statement (.clr d) := oneWord rfl (is4_encRdRr _ _ _ rfl)
theorem ser (d : HGPR) : Statement (.ser d) := oneWord rfl (is4_encRdhK8 _ _ _ rfl)
theorem sbr (d : HGPR) (k : IMM8) : Statement (.sbr d k) := oneWord rfl (is4_encRdhK8 _ _ _ rfl)
theorem cbr (d : HGPR) (k : IMM8) : Statement (.cbr d k) := oneWord rfl (is4_encRdhK8 _ _ _ rfl)
theorem lsl (d : GPR) : Statement (.lsl d) := oneWord rfl (is4_encRdRr _ _ _ rfl)
theorem rol (d : GPR) : Statement (.rol d) := oneWord rfl (is4_encRdRr _ _ _ rfl)
theorem lsr (d : GPR) : Statement (.lsr d) := oneWord rfl (is4_encRd _ _ (by decide))
theorem asr (d : GPR) : Statement (.asr d) := oneWord rfl (is4_encRd _ _ (by decide))
theorem ror (d : GPR) : Statement (.ror d) := oneWord rfl (is4_encRd _ _ (by decide))
theorem swap (d : GPR) : Statement (.swap d) := oneWord rfl (is4_encRd _ _ (by decide))
theorem bset (b : IMM3) : Statement (.bset b) := oneWord rfl (is4_encS3 _ _)
theorem bclr (b : IMM3) : Statement (.bclr b) := oneWord rfl (is4_encS3 _ _)
theorem bst (d : GPR) (b : IMM3) : Statement (.bst d b) := oneWord rfl (is4_encRdB3 _ _ _)
theorem bld (d : GPR) (b : IMM3) : Statement (.bld d b) := oneWord rfl (is4_encRdB3 _ _ _)
theorem sbi (a : IMM5) (b : IMM3) : Statement (.sbi a b) := oneWord rfl (is4_encA5B3 _ _ _)
theorem cbi (a : IMM5) (b : IMM3) : Statement (.cbi a b) := oneWord rfl (is4_encA5B3 _ _ _)
theorem sec : Statement .sec := oneWord rfl rfl
theorem sez : Statement .sez := oneWord rfl rfl
theorem sen : Statement .sen := oneWord rfl rfl
theorem sev : Statement .sev := oneWord rfl rfl
theorem ses : Statement .ses := oneWord rfl rfl
theorem seh : Statement .seh := oneWord rfl rfl
theorem set_ : Statement .set_ := oneWord rfl rfl
theorem sei : Statement .sei := oneWord rfl rfl
theorem clc : Statement .clc := oneWord rfl rfl
theorem clz : Statement .clz := oneWord rfl rfl
theorem cln : Statement .cln := oneWord rfl rfl
theorem clv : Statement .clv := oneWord rfl rfl
theorem cls : Statement .cls := oneWord rfl rfl
theorem clh : Statement .clh := oneWord rfl rfl
theorem clt : Statement .clt := oneWord rfl rfl
theorem cli : Statement .cli := oneWord rfl rfl
theorem mov (d : GPR) (r : GPR) : Statement (.mov d r) := oneWord rfl (is4_encRdRr _ _ _ rfl)
theorem movw (d : EGPR) (r : EGPR) : Statement (.movw d r) := oneWord rfl (is4_encRdhRrh _ _ _ rfl)
theorem ldi (d : HGPR) (k : IMM8) : Statement (.ldi d k) := oneWord rfl (is4_encRdhK8 _ _ _ rfl)
theorem ldX (d : GPR) : Statement (.ldX d) := oneWord rfl (is4_encRdP _ _ _ (by decide))
theorem ldXp (d : GPR) : Statement (.ldXp d) := oneWord rfl (is4_encRdP _ _ _ (by decide))
theorem ldMx (d : GPR) : Statement (.ldMx d) := oneWord rfl (is4_encRdP _ _ _ (by decide))
theorem ldYp (d : GPR) : Statement (.ldYp d) := oneWord rfl (is4_encRdP _ _ _ (by decide))
theorem ldMy (d : GPR) : Statement (.ldMy d) := oneWord rfl (is4_encRdP _ _ _ (by decide))
theorem ldZp (d : GPR) : Statement (.ldZp d) := oneWord rfl (is4_encRdP _ _ _ (by decide))
theorem ldMz (d : GPR) : Statement (.ldMz d) := oneWord rfl (is4_encRdP _ _ _ (by decide))
theorem lddY (d : GPR) (q : IMM6) : Statement (.lddY d q) := oneWord rfl (is4_encRdPq _ _ _ _)
theorem lddZ (d : GPR) (q : IMM6) : Statement (.lddZ d q) := oneWord rfl (is4_encRdPq _ _ _ _)
theorem lds (d : GPR) (k : DADDR) : Statement (.lds d k) := twoWords rfl (is4_encRdP_direct _ _)
theorem stX (r : GPR) : Statement (.stX r) := oneWord rfl (is4_encRdP _ _ _ (by decide))
theorem stXp (r : GPR) : Statement (.stXp r) := oneWord rfl (is4_encRdP _ _ _ (by decide))
theorem stMx (r : GPR) : Statement (.stMx r) := oneWord rfl (is4_encRdP _ _ _ (by decide))
theorem stYp (r : GPR) : Statement (.stYp r) := oneWord rfl (is4_encRdP _ _ _ (by decide))
theorem stMy (r : GPR) : Statement (.stMy r) := oneWord rfl (is4_encRdP _ _ _ (by decide))
theorem stZp (r : GPR) : Statement (.stZp r) := oneWord rfl (is4_encRdP _ _ _ (by decide))
theorem stMz (r : GPR) : Statement (.stMz r) := oneWord rfl (is4_encRdP _ _ _ (by decide))
theorem stdY (q : IMM6) (r : GPR) : Statement (.stdY q r) := oneWord rfl (is4_encRdPq _ _ _ _)
theorem stdZ (q : IMM6) (r : GPR) : Statement (.stdZ q r) := oneWord rfl (is4_encRdPq _ _ _ _)
theorem sts (k : DADDR) (r : GPR) : Statement (.sts k r) := twoWords rfl (is4_encRdP_direct _ _)
theorem lpm : Statement .lpm := oneWord rfl rfl
theorem lpmZ (d : GPR) : Statement (.lpmZ d) := oneWord rfl (is4_encRdP _ _ _ (by decide))
theorem lpmZp (d : GPR) : Statement (.lpmZp d) := oneWord rfl (is4_encRdP _ _ _ (by decide))
theorem elpm : Statement .elpm := oneWord rfl rfl
theorem elpmZ (d : GPR) : Statement (.elpmZ d) := oneWord rfl (is4_encRdP _ _ _ (by decide))
theorem elpmZp (d : GPR) : Statement (.elpmZp d) := oneWord rfl (is4_encRdP _ _ _ (by decide))
theorem spm : Statement .spm := oneWord rfl rfl
theorem in_ (d : GPR) (a : IMM6) : Statement (.in_ d a) := oneWord rfl (is4_encRdA6 _ _ _)
theorem out (a : IMM6) (r : GPR) : Statement (.out a r) := oneWord rfl (is4_encRdA6 _ _ _)
theorem push (r : GPR) : Statement (.push r) := oneWord rfl (is4_encRdP _ _ _ (by decide))
theorem pop (d : GPR) : Statement (.pop d) := oneWord rfl (is4_encRdP _ _ _ (by decide))
theorem ldY (d : GPR) : Statement (.ldY d) := oneWord rfl (is4_encRdPq _ _ _ _)
theorem ldZ (d : GPR) : Statement (.ldZ d) := oneWord rfl (is4_encRdPq _ _ _ _)
theorem stY (r : GPR) : Statement (.stY r) := oneWord rfl (is4_encRdPq _ _ _ _)
theorem stZ (r : GPR) : Statement (.stZ r) := oneWord rfl (is4_encRdPq _ _ _ _)
theorem rjmp (k : LREL) : Statement (.rjmp k) := oneWord rfl (is4_encK12 _ _)
theorem ijmp : Statement .ijmp := oneWord rfl rfl
theorem eijmp : Statement .eijmp := oneWord rfl rfl
theorem jmp (k : PADDR) : Statement (.jmp k) := twoWords rfl (is4_encK22 _ _)
theorem rcall (k : LREL) : Statement (.rcall k) := oneWord rfl (is4_encK12 _ _)
theorem icall : Statement .icall := oneWord rfl rfl
theorem eicall : Statement .eicall := oneWord rfl rfl
theorem call (k : PADDR) : Statement (.call k) := twoWords rfl (is4_encK22 _ _)
theorem ret : Statement .ret := oneWord rfl rfl
theorem reti : Statement .reti := oneWord rfl rfl
theorem brbs (b : IMM3) (k : SREL) : Statement (.brbs b k) := oneWord rfl (is4_encS3K7 _ _ _)
theorem brbc (b : IMM3) (k : SREL) : Statement (.brbc b k) := oneWord rfl (is4_encS3K7 _ _ _)
theorem cpse (d : GPR) (r : GPR) : Statement (.cpse d r) := oneWord rfl (is4_encRdRr _ _ _ rfl)
theorem sbrc (r : GPR) (b : IMM3) : Statement (.sbrc r b) := oneWord rfl (is4_encRdB3 _ _ _)
theorem sbrs (r : GPR) (b : IMM3) : Statement (.sbrs r b) := oneWord rfl (is4_encRdB3 _ _ _)
theorem sbic (a : IMM5) (b : IMM3) : Statement (.sbic a b) := oneWord rfl (is4_encA5B3 _ _ _)
theorem sbis (a : IMM5) (b : IMM3) : Statement (.sbis a b) := oneWord rfl (is4_encA5B3 _ _ _)
theorem brcs (k : SREL) : Statement (.brcs k) := oneWord rfl (is4_encS3K7 _ _ _)
theorem brlo (k : SREL) : Statement (.brlo k) := oneWord rfl (is4_encS3K7 _ _ _)
theorem breq (k : SREL) : Statement (.breq k) := oneWord rfl (is4_encS3K7 _ _ _)
theorem brmi (k : SREL) : Statement (.brmi k) := oneWord rfl (is4_encS3K7 _ _ _)
theorem brvs (k : SREL) : Statement (.brvs k) := oneWord rfl (is4_encS3K7 _ _ _)
theorem brlt (k : SREL) : Statement (.brlt k) := oneWord rfl (is4_encS3K7 _ _ _)
theorem brhs (k : SREL) : Statement (.brhs k) := oneWord rfl (is4_encS3K7 _ _ _)
theorem brts (k : SREL) : Statement (.brts k) := oneWord rfl (is4_encS3K7 _ _ _)
theorem brie (k : SREL) : Statement (.brie k) := oneWord rfl (is4_encS3K7 _ _ _)
theorem brcc (k : SREL) : Statement (.brcc k) := oneWord rfl (is4_encS3K7 _ _ _)
theorem brsh (k : SREL) : Statement (.brsh k) := oneWord rfl (is4_encS3K7 _ _ _)
theorem brne (k : SREL) : Statement (.brne k) := oneWord rfl (is4_encS3K7 _ _ _)
theorem brpl (k : SREL) : Statement (.brpl k) := oneWord rfl (is4_encS3K7 _ _ _)
theorem brvc (k : SREL) : Statement (.brvc k) := oneWord rfl (is4_encS3K7 _ _ _)
theorem brge (k : SREL) : Statement (.brge k) := oneWord rfl (is4_encS3K7 _ _ _)
theorem brhc (k : SREL) : Statement (.brhc k) := oneWord rfl (is4_encS3K7 _ _ _)
theorem brtc (k : SREL) : Statement (.brtc k) := oneWord rfl (is4_encS3K7 _ _ _)
theorem brid (k : SREL) : Statement (.brid k) := oneWord rfl (is4_encS3K7 _ _ _)
theorem nop : Statement .nop := oneWord rfl rfl
theorem sleep : Statement .sleep := oneWord rfl rfl
theorem wdr : Statement .wdr := oneWord rfl rfl
theorem break_ : Statement .break_ := oneWord rfl rfl

end Sys2Proof.Laws.WordCount
end

