-- ==== Sys2Proof/Laws/Shapes.lean ====
section
/-! SUPPORT. One lemma for each shared shape of a meaning: what a next state of it is. -/

namespace Sys2Proof.Machine

/-- A load that completes: the byte of one data read, in the destination. -/
theorem loadFrom_next {d : Fin 32} {ea : Nat} {s t : State} (h : loadFrom d ea s = .next t) :
    ∃ v u, s.memRead ea = .ok (v, u) ∧ t = u.setReg d v := by
  obtain ⟨got, hr, hk⟩ := andThen_next h
  cases hk
  exact ⟨got.1, got.2, hr, rfl⟩

/-- A store that completes: one data write. -/
theorem storeTo_next {v : Byte} {ea : Nat} {s t : State} (h : storeTo v ea s = .next t) : s.memWrite ea v = .ok t := by
  obtain ⟨u, hr, hk⟩ := andThen_next h
  cases hk
  exact hr

/-- A load with a pointer update that completes: its register is no part of the pointer, and it is the plain load of the
state after the update. -/
theorem loadUpdating_next {m : Mnemonic} {p : Ptr} {mode : PtrMode} {d : Fin 32} {s t : State}
    (h : loadUpdating m p mode d s = .next t) :
    p.holds d = false ∧ loadFrom d (s.readPtr p mode).1.toNat (s.readPtr p mode).2 = .next t := by
  unfold loadUpdating at h
  split at h
  · cases h
  · exact ⟨Bool.eq_false_of_not_eq_true ‹_›, h⟩

/-- A store with a pointer update that completes: as the load. -/
theorem storeUpdating_next {m : Mnemonic} {p : Ptr} {mode : PtrMode} {r : Fin 32} {s t : State}
    (h : storeUpdating m p mode r s = .next t) :
    p.holds r = false ∧ storeTo (s.reg r) (s.readPtr p mode).1.toNat (s.readPtr p mode).2 = .next t := by
  unfold storeUpdating at h
  split at h
  · cases h
  · exact ⟨Bool.eq_false_of_not_eq_true ‹_›, h⟩

/-- A program-memory load that completes. -/
theorem loadFlash_next {d : Fin 32} {pa : Nat} {s t : State} (h : loadFlash d pa s = .next t) :
    pa < s.dev.flashBytes ∧ t = s.setReg d (s.flash.read pa) := by
  obtain ⟨v, hr, hk⟩ := andThen_next h
  cases hk
  rcases s.flashByte_cases pa with ⟨hb, he⟩ | ⟨-, he⟩ <;> rw [he] at hr <;> cases hr
  exact ⟨hb, rfl⟩

/-- A program-memory load with a pointer update that completes. -/
theorem loadFlashUpdating_next {m : Mnemonic} {d : Fin 32} {pa : Nat} {s t : State}
    (h : loadFlashUpdating m d pa s = .next t) :
    Ptr.z.holds d = false ∧ pa < s.dev.flashBytes ∧
      t = (s.setPair Ptr.z.pair (s.ptr .z + 1)).setReg d (s.flash.read pa) := by
  unfold loadFlashUpdating at h
  split at h
  · cases h
  · obtain ⟨hb, ht⟩ := loadFlash_next h
    exact ⟨Bool.eq_false_of_not_eq_true ‹_›, hb, ht⟩

/-- A call that completes: the return address pushed, then control at the target. -/
theorem callTo_next {target : Nat} {s t : State} (h : callTo target s = .next t) :
    ∃ u, s.pushPC s.nextpc = .ok u ∧ t = u.jumpTo target := by
  obtain ⟨u, hr, hk⟩ := andThen_next h
  cases hk
  exact ⟨u, hr, rfl⟩

/-- A conditional branch always completes. -/
theorem branchIf_eq (taken : Bool) (k : SREL) (s : State) :
    branchIf taken k s = .next { s with
      nextpc := if taken then s.relTarget (srel k) % s.dev.pcMod else s.nextpc
      cycles := s.cycles + taken.toNat } := by
  cases taken <;> rfl

/-- A skip that completes: skipping, or with nothing done. -/
theorem skipIf_next {taken : Bool} {s t : State} (h : skipIf taken s = .next t) :
    (taken = true ∧ s.skip = .ok t) ∨ (taken = false ∧ t = s) := by
  cases taken
  · cases h
    exact .inr ⟨rfl, rfl⟩
  · obtain ⟨u, hr, hk⟩ := andThen_next h
    cases hk
    exact .inl ⟨rfl, hr⟩

/-- A step that completes: the instruction fetched, executed in the entered state, then retired (10 R33). -/
theorem step_next {s t : State} (h : step s = .next t) :
    ∃ i size u, s.fetchInstr = .ok (i, size) ∧ exec i (s.enter size) = .next u ∧ t = u.retire := by
  unfold step at h
  split at h
  · cases h
  · rename_i got hgot
    split at h
    · cases h
      exact ⟨got.1, got.2, _, hgot, ‹_›, rfl⟩
    · cases h
    · cases h

/-- The driver enters an interrupt only with I set (60 R520). -/
theorem driverStep_interrupt_next {vector : Nat → Nat} {n : Nat} {s t : State}
    (h : driverStep vector (.interrupt n) s = .next t) :
    (s.flags.i = true ∧ s.invokeInterrupt vector n = .next t) ∨ (s.flags.i = false ∧ t = s) := by
  unfold driverStep at h
  cases hi : s.flags.i <;> simp only [hi, if_true, Bool.false_eq_true, if_false] at h
  · cases h
    exact .inr ⟨rfl, rfl⟩
  · exact .inl ⟨rfl, h⟩

end Sys2Proof.Machine
end

