-- ==== Sys2Proof/Tests/Slice0.lean ====
section
/-! SUPPORT. Tests: the WellFormed smoke, words written out from the encodings, single steps with results from the vectors
of spec/95_test_vectors.md (a test's name ends in its table and row), and a witness for the hypotheses of each statement
that has any. -/

namespace Sys2Proof.Tests

open Sys2Proof.Machine

/-! ### WellFormed: an alias is refused, its expansion is accepted -/

theorem test_wellFormed_refuses_tst : Instr.wellFormed (.tst 5) = false := by decide

theorem test_wellFormed_refuses_sec : Instr.wellFormed .sec = false := by decide

theorem test_wellFormed_refuses_breq : Instr.wellFormed (.breq 5) = false := by decide

theorem test_wellFormed_refuses_ldY : Instr.wellFormed (.ldY 5) = false := by decide

theorem test_wellFormed_accepts_expansions :
    [expansion (.tst 5), expansion .sec, expansion (.breq 5), expansion (.ldY 5)].all Instr.wellFormed = true := by decide

/-! ### Decoding -/

/-- Every word pair decodes to the instruction and the size beside it. -/
def decodesTo (rows : List (Word16 × Word16 × Instr × Nat)) : Bool :=
  rows.all fun row => decodeWords row.1 row.2.1 == some (row.2.2.1, row.2.2.2)

/-- Words written out from the patterns of 30 R150: arithmetic and logic (40). -/
theorem test_decode_arith : decodesTo [
    (0b0000_1101_0110_1001, 0, .add 0b10110 0b01001, 2),
    (0b0001_1101_0110_1001, 0, .adc 0b10110 0b01001, 2),
    (0b1001_0110_1010_1101, 0, .adiw 0b10 0b101101, 2),
    (0b0001_1001_0110_1001, 0, .sub 0b10110 0b01001, 2),
    (0b0101_1001_1011_0111, 0, .subi 0b1011 0b10010111, 2),
    (0b0000_1001_0110_1001, 0, .sbc 0b10110 0b01001, 2),
    (0b0100_1001_1011_0111, 0, .sbci 0b1011 0b10010111, 2),
    (0b1001_0111_1010_1101, 0, .sbiw 0b10 0b101101, 2),
    (0b0010_0001_0110_1001, 0, .and 0b10110 0b01001, 2),
    (0b0111_1001_1011_0111, 0, .andi 0b1011 0b10010111, 2),
    (0b0010_1001_0110_1001, 0, .or 0b10110 0b01001, 2),
    (0b0110_1001_1011_0111, 0, .ori 0b1011 0b10010111, 2),
    (0b0010_0101_0110_1001, 0, .eor 0b10110 0b01001, 2),
    (0b1001_0101_0110_0000, 0, .com 0b10110, 2),
    (0b1001_0101_0110_0001, 0, .neg 0b10110, 2),
    (0b1001_0101_0110_0011, 0, .inc 0b10110, 2),
    (0b1001_0101_0110_1010, 0, .dec 0b10110, 2),
    (0b0001_0101_0110_1001, 0, .cp 0b10110 0b01001, 2),
    (0b0000_0101_0110_1001, 0, .cpc 0b10110 0b01001, 2),
    (0b0011_1001_1011_0111, 0, .cpi 0b1011 0b10010111, 2),
    (0b1001_1101_0110_1001, 0, .mul 0b10110 0b01001, 2),
    (0b0000_0010_1011_0110, 0, .muls 0b1011 0b0110, 2),
    (0b0000_0011_0101_0011, 0, .mulsu 0b101 0b011, 2),
    (0b0000_0011_0101_1011, 0, .fmul 0b101 0b011, 2),
    (0b0000_0011_1101_0011, 0, .fmuls 0b101 0b011, 2),
    (0b0000_0011_1101_1011, 0, .fmulsu 0b101 0b011, 2)] = true := by decide

/-- Words written out from the patterns of 30 R150: shift, bit and flag (41). -/
theorem test_decode_shift : decodesTo [
    (0b1001_0101_0110_0110, 0, .lsr 0b10110, 2),
    (0b1001_0101_0110_0101, 0, .asr 0b10110, 2),
    (0b1001_0101_0110_0111, 0, .ror 0b10110, 2),
    (0b1001_0101_0110_0010, 0, .swap 0b10110, 2),
    (0b1001_0100_0101_1000, 0, .bset 0b101, 2),
    (0b1001_0100_1101_1000, 0, .bclr 0b101, 2),
    (0b1111_1011_0110_0101, 0, .bst 0b10110 0b101, 2),
    (0b1111_1001_0110_0101, 0, .bld 0b10110 0b101, 2),
    (0b1001_1010_1011_0101, 0, .sbi 0b10110 0b101, 2),
    (0b1001_1000_1011_0101, 0, .cbi 0b10110 0b101, 2)] = true := by decide

/-- Words written out from the patterns of 30 R150: moves and loads (42). -/
theorem test_decode_transfer1 : decodesTo [
    (0b0010_1101_0110_1001, 0, .mov 0b10110 0b01001, 2),
    (0b0000_0001_1011_0110, 0, .movw 0b1011 0b0110, 2),
    (0b1110_1001_1011_0111, 0, .ldi 0b1011 0b10010111, 2),
    (0b1001_0001_0110_1100, 0, .ldX 0b10110, 2),
    (0b1001_0001_0110_1101, 0, .ldXp 0b10110, 2),
    (0b1001_0001_0110_1110, 0, .ldMx 0b10110, 2),
    (0b1001_0001_0110_1001, 0, .ldYp 0b10110, 2),
    (0b1001_0001_0110_1010, 0, .ldMy 0b10110, 2),
    (0b1001_0001_0110_0001, 0, .ldZp 0b10110, 2),
    (0b1001_0001_0110_0010, 0, .ldMz 0b10110, 2),
    (0b1010_0101_0110_1101, 0, .lddY 0b10110 0b101101, 2),
    (0b1010_0101_0110_0101, 0, .lddZ 0b10110 0b101101, 2),
    (0b1001_0001_0110_0000, 0b1011_1110_1110_1111, .lds 0b10110 0b1011111011101111, 4)] = true := by decide

/-- Words written out from the patterns of 30 R150: stores, program memory, I/O, stack (42). -/
theorem test_decode_transfer2 : decodesTo [
    (0b1001_0011_0110_1100, 0, .stX 0b10110, 2),
    (0b1001_0011_0110_1101, 0, .stXp 0b10110, 2),
    (0b1001_0011_0110_1110, 0, .stMx 0b10110, 2),
    (0b1001_0011_0110_1001, 0, .stYp 0b10110, 2),
    (0b1001_0011_0110_1010, 0, .stMy 0b10110, 2),
    (0b1001_0011_0110_0001, 0, .stZp 0b10110, 2),
    (0b1001_0011_0110_0010, 0, .stMz 0b10110, 2),
    (0b1010_0111_0110_1101, 0, .stdY 0b101101 0b10110, 2),
    (0b1010_0111_0110_0101, 0, .stdZ 0b101101 0b10110, 2),
    (0b1001_0011_0110_0000, 0b1011_1110_1110_1111, .sts 0b1011111011101111 0b10110, 4),
    (0b1001_0101_1100_1000, 0, .lpm, 2),
    (0b1001_0001_0110_0100, 0, .lpmZ 0b10110, 2),
    (0b1001_0001_0110_0101, 0, .lpmZp 0b10110, 2),
    (0b1001_0101_1101_1000, 0, .elpm, 2),
    (0b1001_0001_0110_0110, 0, .elpmZ 0b10110, 2),
    (0b1001_0001_0110_0111, 0, .elpmZp 0b10110, 2),
    (0b1001_0101_1110_1000, 0, .spm, 2),
    (0b1011_0101_0110_1101, 0, .in_ 0b10110 0b101101, 2),
    (0b1011_1101_0110_1101, 0, .out 0b101101 0b10110, 2),
    (0b1001_0011_0110_1111, 0, .push 0b10110, 2),
    (0b1001_0001_0110_1111, 0, .pop 0b10110, 2)] = true := by decide

/-- Words written out from the patterns of 30 R150: control transfer (43). -/
theorem test_decode_control : decodesTo [
    (0b1100_1011_0001_1010, 0, .rjmp 0b101100011010, 2),
    (0b1001_0100_0000_1001, 0, .ijmp, 2),
    (0b1001_0100_0001_1001, 0, .eijmp, 2),
    (0b1001_0101_0110_1100, 0b1110_0011_1101_0110, .jmp 0b1011001110001111010110, 4),
    (0b1101_1011_0001_1010, 0, .rcall 0b101100011010, 2),
    (0b1001_0101_0000_1001, 0, .icall, 2),
    (0b1001_0101_0001_1001, 0, .eicall, 2),
    (0b1001_0101_0110_1110, 0b1110_0011_1101_0110, .call 0b1011001110001111010110, 4),
    (0b1001_0101_0000_1000, 0, .ret, 2),
    (0b1001_0101_0001_1000, 0, .reti, 2),
    (0b1111_0010_1100_1101, 0, .brbs 0b101 0b1011001, 2),
    (0b1111_0110_1100_1101, 0, .brbc 0b101 0b1011001, 2),
    (0b0001_0001_0110_1001, 0, .cpse 0b10110 0b01001, 2),
    (0b1111_1101_0110_0101, 0, .sbrc 0b10110 0b101, 2),
    (0b1111_1111_0110_0101, 0, .sbrs 0b10110 0b101, 2),
    (0b1001_1001_1011_0101, 0, .sbic 0b10110 0b101, 2),
    (0b1001_1011_1011_0101, 0, .sbis 0b10110 0b101, 2)] = true := by decide

/-- Words written out from the patterns of 30 R150: MCU control (44). -/
theorem test_decode_mcu : decodesTo [
    (0b0000_0000_0000_0000, 0, .nop, 2),
    (0b1001_0101_1000_1000, 0, .sleep, 2),
    (0b1001_0101_1010_1000, 0, .wdr, 2),
    (0b1001_0101_1001_1000, 0, .break_, 2)] = true := by decide

/-- Words written out from the alias patterns of 30 R150 decode to the expansions of 30 R172. -/
theorem test_decode_aliases : decodesTo [
    (0b0010_0011_0110_0110, 0, .and 0b10110 0b10110, 2),
    (0b0010_0111_0110_0110, 0, .eor 0b10110 0b10110, 2),
    (0b1110_1111_1011_1111, 0, .ldi 0b1011 0xFF, 2),
    (0b0110_1001_1011_0111, 0, .ori 0b1011 0b10010111, 2),
    (0b0111_0110_1011_1000, 0, .andi 0b1011 0b01101000, 2),
    (0b0000_1111_0110_0110, 0, .add 0b10110 0b10110, 2),
    (0b0001_1111_0110_0110, 0, .adc 0b10110 0b10110, 2),
    (0b1001_0100_0000_1000, 0, .bset 0, 2),
    (0b1001_0100_0001_1000, 0, .bset 1, 2),
    (0b1001_0100_0010_1000, 0, .bset 2, 2),
    (0b1001_0100_0011_1000, 0, .bset 3, 2),
    (0b1001_0100_0100_1000, 0, .bset 4, 2),
    (0b1001_0100_0101_1000, 0, .bset 5, 2),
    (0b1001_0100_0110_1000, 0, .bset 6, 2),
    (0b1001_0100_0111_1000, 0, .bset 7, 2),
    (0b1001_0100_1000_1000, 0, .bclr 0, 2),
    (0b1001_0100_1001_1000, 0, .bclr 1, 2),
    (0b1001_0100_1010_1000, 0, .bclr 2, 2),
    (0b1001_0100_1011_1000, 0, .bclr 3, 2),
    (0b1001_0100_1100_1000, 0, .bclr 4, 2),
    (0b1001_0100_1101_1000, 0, .bclr 5, 2),
    (0b1001_0100_1110_1000, 0, .bclr 6, 2),
    (0b1001_0100_1111_1000, 0, .bclr 7, 2),
    (0b1000_0001_0110_1000, 0, .lddY 0b10110 0, 2),
    (0b1000_0001_0110_0000, 0, .lddZ 0b10110 0, 2),
    (0b1000_0011_0110_1000, 0, .stdY 0 0b10110, 2),
    (0b1000_0011_0110_0000, 0, .stdZ 0 0b10110, 2),
    (0b1111_0010_1100_1000, 0, .brbs 0 0b1011001, 2),
    (0b1111_0010_1100_1000, 0, .brbs 0 0b1011001, 2),
    (0b1111_0010_1100_1001, 0, .brbs 1 0b1011001, 2),
    (0b1111_0010_1100_1010, 0, .brbs 2 0b1011001, 2),
    (0b1111_0010_1100_1011, 0, .brbs 3 0b1011001, 2),
    (0b1111_0010_1100_1100, 0, .brbs 4 0b1011001, 2),
    (0b1111_0010_1100_1101, 0, .brbs 5 0b1011001, 2),
    (0b1111_0010_1100_1110, 0, .brbs 6 0b1011001, 2),
    (0b1111_0010_1100_1111, 0, .brbs 7 0b1011001, 2),
    (0b1111_0110_1100_1000, 0, .brbc 0 0b1011001, 2),
    (0b1111_0110_1100_1000, 0, .brbc 0 0b1011001, 2),
    (0b1111_0110_1100_1001, 0, .brbc 1 0b1011001, 2),
    (0b1111_0110_1100_1010, 0, .brbc 2 0b1011001, 2),
    (0b1111_0110_1100_1011, 0, .brbc 3 0b1011001, 2),
    (0b1111_0110_1100_1100, 0, .brbc 4 0b1011001, 2),
    (0b1111_0110_1100_1101, 0, .brbc 5 0b1011001, 2),
    (0b1111_0110_1100_1110, 0, .brbc 6 0b1011001, 2),
    (0b1111_0110_1100_1111, 0, .brbc 7 0b1011001, 2)] = true := by decide

/-- Illegal words of 30 R161 decode to nothing. -/
theorem test_decode_refuses_illegal :
    ([0x0001, 0x9003, 0x9204, 0x9404, 0x940B, 0x9429, 0x9528, 0x95B8, 0x95F8, 0xF808, 0xFBFF, 0xFFFF] : List Word16).all
      (fun w0 => decodeWords w0 0 == none) = true := by decide

/-- A truncated byte list is refused by name. -/
theorem test_decode_refuses_truncated :
    decode [0x0C] = .error .truncated ∧ decode [0x0C, 0x94] = .error (.truncatedSecondWord 0x940C) ∧
      decode [0x01, 0x00] = .error (.noInstruction 0x0001) := ⟨rfl, rfl, rfl⟩

/-! ### Building a small state -/

/-- The state after reset with the given changes, first to last. -/
def setup (changes : List (State → State)) : State := changes.foldl (fun s change => change s) State.reset

def r (i : Fin 32) (v : Byte) (s : State) : State := s.setReg i v
def ptr (p : Ptr) (v : Word16) (s : State) : State := s.setPair p.pair v
def sp (v : Word16) (s : State) : State := s.setSp v
def sreg (v : Byte) (s : State) : State := s.setFlags (Flags.ofByte v)

/-- A byte of the data space. -/
def byte (a : Nat) (v : Byte) (s : State) : State :=
  match s.memWrite a v with
  | .ok t => t
  | .error _ => s

/-- Words in program memory, where the next step fetches them. -/
def code (a : Nat) (words : List Word16) (s : State) : State :=
  { s.loadFlash a (words.flatMap wordBytes) with pc := a, nextpc := a }

/-- The program bytes of table V8. -/
def image (s : State) : State :=
  ((s.loadFlash 0x100 [0x11, 0x22, 0x33, 0x44]).loadFlash 0x10100 [0xAA, 0xBB]).loadFlash 0x1FFFF [0xEE]

def flash32 (s : State) : State := { s with dev := { s.dev with flashBytes := 32768 } }

/-- The first device of table V16. -/
def small (s : State) : State :=
  { s with dev := { s.dev with flashBytes := 32768, pcBits := 16, hasRampz := false } }

/-- The second device of table V16. -/
def smaller (s : State) : State :=
  { s with dev := { s.dev with flashBytes := 32768, pcBits := 15, nIo := 64, nRam := 1024 } }

/-- A handler is plugged in at I/O index `i`. -/
def plug (i : Nat) (s : State) : State := { s with dev := { s.dev with plugged := i :: s.dev.plugged } }

/-- The device leaves this mnemonic unimplemented, and no other. -/
def unimplements (m : Mnemonic) (s : State) : State := { s with dev := { s.dev with unimplSet := [m] } }

/-- `CYC_BASE m` is `n` on this device. -/
def costs (m : Mnemonic) (n : Nat) (s : State) : State :=
  { s with dev := { s.dev with cycOverride := (m, n) :: s.dev.cycOverride } }

def nextOf (o : Outcome) : Option State :=
  match o with
  | .next t => some t
  | .fault _ => none
  | .refused _ => none

def faultOf (o : Outcome) : Option Fault :=
  match o with
  | .next _ => none
  | .fault e => some e
  | .refused _ => none

/-- One step from the given state answers a next state that passes the check. -/
def gives (changes : List (State → State)) (check : State → Bool) : Bool := (nextOf (step (setup changes))).any check

/-- One step from the given state faults so. -/
def faults (changes : List (State → State)) (e : Fault) : Bool := faultOf (step (setup changes)) == some e

/-! ### Steps, with results from 95_test_vectors.md -/

theorem test_add_v2_4 :
    gives [r 5 0x80, r 6 0x80, sreg 0x00, code 0x0 [0x0C56]]
      (fun t => t.sreg = 0x1B ∧ t.pc = 0x00002 ∧ t.cycles = 1 ∧ t.reg 5 = 0x00) = true := by decide

theorem test_add_v2_7 :
    gives [r 5 0x50, r 6 0x50, sreg 0x00, code 0x0 [0x0C56]]
      (fun t => t.sreg = 0x0C ∧ t.pc = 0x00002 ∧ t.cycles = 1 ∧ t.reg 5 = 0xA0) = true := by decide

theorem test_adc_v2_13 :
    gives [r 5 0x80, r 6 0x7F, sreg 0x01, code 0x0 [0x1C56]]
      (fun t => t.sreg = 0x23 ∧ t.pc = 0x00002 ∧ t.cycles = 1 ∧ t.reg 5 = 0x00) = true := by decide

theorem test_sub_v2_18 :
    gives [r 5 0x7F, r 6 0xFF, sreg 0x00, code 0x0 [0x1856]]
      (fun t => t.sreg = 0x0D ∧ t.pc = 0x00002 ∧ t.cycles = 1 ∧ t.reg 5 = 0x80) = true := by decide

theorem test_subi_v2_20 :
    gives [r 31 0xFF, sreg 0x00, code 0x0 [0x5FFF]]
      (fun t => t.sreg = 0x02 ∧ t.pc = 0x00002 ∧ t.cycles = 1 ∧ t.reg 31 = 0x00) = true := by decide

theorem test_sbc_v2_24 :
    gives [r 5 0x01, r 6 0x00, sreg 0x03, code 0x0 [0x0856]]
      (fun t => t.sreg = 0x02 ∧ t.pc = 0x00002 ∧ t.cycles = 1 ∧ t.reg 5 = 0x00) = true := by decide

theorem test_sbc_v2_25 :
    gives [r 5 0x80, r 6 0x00, sreg 0x01, code 0x0 [0x0856]]
      (fun t => t.sreg = 0x38 ∧ t.pc = 0x00002 ∧ t.cycles = 1 ∧ t.reg 5 = 0x7F) = true := by decide

theorem test_sbci_v2_27 :
    gives [r 16 0x20, sreg 0x02, code 0x0 [0x4100]]
      (fun t => t.sreg = 0x00 ∧ t.pc = 0x00002 ∧ t.cycles = 1 ∧ t.reg 16 = 0x10) = true := by decide

theorem test_cpi_v2_37 :
    gives [r 16 0x10, sreg 0x00, code 0x0 [0x3101]]
      (fun t => t.sreg = 0x35 ∧ t.pc = 0x00002 ∧ t.cycles = 1 ∧ t.reg 16 = 0x10) = true := by decide

theorem test_com_v2_43 :
    gives [r 5 0x00, sreg 0x00, code 0x0 [0x9450]]
      (fun t => t.sreg = 0x15 ∧ t.pc = 0x00002 ∧ t.cycles = 1 ∧ t.reg 5 = 0xFF) = true := by decide

theorem test_inc_v2_47 :
    gives [r 5 0xFF, sreg 0x01, code 0x0 [0x9453]]
      (fun t => t.sreg = 0x03 ∧ t.pc = 0x00002 ∧ t.cycles = 1 ∧ t.reg 5 = 0x00) = true := by decide

theorem test_inc_v2_46 :
    gives [r 5 0x7F, sreg 0x00, code 0x0 [0x9453]]
      (fun t => t.sreg = 0x0C ∧ t.pc = 0x00002 ∧ t.cycles = 1 ∧ t.reg 5 = 0x80) = true := by decide

theorem test_dec_v2_49 :
    gives [r 5 0x80, sreg 0x00, code 0x0 [0x945A]]
      (fun t => t.sreg = 0x18 ∧ t.pc = 0x00002 ∧ t.cycles = 1 ∧ t.reg 5 = 0x7F) = true := by decide

theorem test_and_v2_52 :
    gives [r 5 0xF0, r 6 0x3C, sreg 0x09, code 0x0 [0x2056]]
      (fun t => t.sreg = 0x01 ∧ t.pc = 0x00002 ∧ t.cycles = 1 ∧ t.reg 5 = 0x30) = true := by decide

theorem test_andi_v2_54 :
    gives [r 16 0xFF, sreg 0x00, code 0x0 [0x7800]]
      (fun t => t.sreg = 0x14 ∧ t.pc = 0x00002 ∧ t.cycles = 1 ∧ t.reg 16 = 0x80) = true := by decide

theorem test_or_v2_55 :
    gives [r 5 0x80, r 6 0x01, sreg 0x08, code 0x0 [0x2856]]
      (fun t => t.sreg = 0x14 ∧ t.pc = 0x00002 ∧ t.cycles = 1 ∧ t.reg 5 = 0x81) = true := by decide

theorem test_ori_v2_56 :
    gives [r 16 0x00, sreg 0x00, code 0x0 [0x6000]]
      (fun t => t.sreg = 0x02 ∧ t.pc = 0x00002 ∧ t.cycles = 1 ∧ t.reg 16 = 0x00) = true := by decide

theorem test_eor_v2_58 :
    gives [r 5 0xAA, sreg 0xFF, code 0x0 [0x2455]]
      (fun t => t.sreg = 0xE3 ∧ t.pc = 0x00002 ∧ t.cycles = 1 ∧ t.reg 5 = 0x00) = true := by decide

theorem test_adiw_v2_60 :
    gives [r 25 0xFF, r 24 0xFF, sreg 0x00, code 0x0 [0x9601]]
      (fun t => t.sreg = 0x03 ∧ t.pc = 0x00002 ∧ t.cycles = 2 ∧ t.reg 25 = 0x00 ∧ t.reg 24 = 0x00) = true := by decide

theorem test_adiw_v2_61 :
    gives [r 27 0x7F, r 26 0xFF, sreg 0x00, code 0x0 [0x9611]]
      (fun t => t.sreg = 0x0C ∧ t.pc = 0x00002 ∧ t.cycles = 2 ∧ t.reg 27 = 0x80 ∧ t.reg 26 = 0x00) = true := by decide

theorem test_sbiw_v2_64 :
    gives [r 25 0x00, r 24 0x00, sreg 0x00, code 0x0 [0x9701]]
      (fun t => t.sreg = 0x15 ∧ t.pc = 0x00002 ∧ t.cycles = 2 ∧ t.reg 25 = 0xFF ∧ t.reg 24 = 0xFF) = true := by decide

theorem test_sbiw_v2_65 :
    gives [r 25 0x80, r 24 0x00, sreg 0x00, code 0x0 [0x9701]]
      (fun t => t.sreg = 0x18 ∧ t.pc = 0x00002 ∧ t.cycles = 2 ∧ t.reg 25 = 0x7F ∧ t.reg 24 = 0xFF) = true := by decide

theorem test_mul_v2_70 :
    gives [r 0 0x10, r 1 0x10, sreg 0x00, code 0x0 [0x9C01]]
      (fun t => t.sreg = 0x00 ∧ t.pc = 0x00002 ∧ t.cycles = 2 ∧ t.reg 1 = 0x01 ∧ t.reg 0 = 0x00) = true := by decide

theorem test_muls_v2_72 :
    gives [r 16 0x80, r 17 0x7F, sreg 0x00, code 0x0 [0x0201]]
      (fun t => t.sreg = 0x01 ∧ t.pc = 0x00002 ∧ t.cycles = 2 ∧ t.reg 1 = 0xC0 ∧ t.reg 0 = 0x80) = true := by decide

theorem test_mulsu_v2_74 :
    gives [r 16 0xFF, r 17 0xFF, sreg 0x00, code 0x0 [0x0301]]
      (fun t => t.sreg = 0x01 ∧ t.pc = 0x00002 ∧ t.cycles = 2 ∧ t.reg 1 = 0xFF ∧ t.reg 0 = 0x01) = true := by decide

theorem test_fmul_v2_78 :
    gives [r 16 0xFF, r 17 0xFF, sreg 0x00, code 0x0 [0x0309]]
      (fun t => t.sreg = 0x01 ∧ t.pc = 0x00002 ∧ t.cycles = 2 ∧ t.reg 1 = 0xFC ∧ t.reg 0 = 0x02) = true := by decide

theorem test_fmuls_v2_80 :
    gives [r 16 0xC0, r 17 0x40, sreg 0x00, code 0x0 [0x0381]]
      (fun t => t.sreg = 0x01 ∧ t.pc = 0x00002 ∧ t.cycles = 2 ∧ t.reg 1 = 0xE0 ∧ t.reg 0 = 0x00) = true := by decide

theorem test_fmulsu_v2_81 :
    gives [r 16 0x80, r 17 0xFF, sreg 0x00, code 0x0 [0x0389]]
      (fun t => t.sreg = 0x01 ∧ t.pc = 0x00002 ∧ t.cycles = 2 ∧ t.reg 1 = 0x01 ∧ t.reg 0 = 0x00) = true := by decide

theorem test_lsr_v3_1 :
    gives [r 5 0x01, sreg 0x00, code 0x0 [0x9456]]
      (fun t => t.sreg = 0x1B ∧ t.pc = 0x00002 ∧ t.cycles = 1 ∧ t.reg 5 = 0x00) = true := by decide

theorem test_asr_v3_6 :
    gives [r 5 0x81, sreg 0x00, code 0x0 [0x9455]]
      (fun t => t.sreg = 0x15 ∧ t.pc = 0x00002 ∧ t.cycles = 1 ∧ t.reg 5 = 0xC0) = true := by decide

theorem test_ror_v3_9 :
    gives [r 5 0x01, sreg 0x00, code 0x0 [0x9457]]
      (fun t => t.sreg = 0x1B ∧ t.pc = 0x00002 ∧ t.cycles = 1 ∧ t.reg 5 = 0x00) = true := by decide

theorem test_swap_v3_21 :
    gives [r 5 0xA5, sreg 0xFF, code 0x0 [0x9452]]
      (fun t => t.sreg = 0xFF ∧ t.pc = 0x00002 ∧ t.cycles = 1 ∧ t.reg 5 = 0x5A) = true := by decide

theorem test_bset_4_v4_17 :
    gives [sreg 0x00, code 0x0 [0x9448]]
      (fun t => t.sreg = 0x10 ∧ t.pc = 0x00002 ∧ t.cycles = 1) = true := by decide

theorem test_bclr_2_v4_18 :
    gives [sreg 0x14, code 0x0 [0x94A8]]
      (fun t => t.sreg = 0x10 ∧ t.pc = 0x00002 ∧ t.cycles = 1) = true := by decide

theorem test_bst_v4_20 :
    gives [r 5 0xFE, sreg 0xFF, code 0x0 [0xFA50]]
      (fun t => t.sreg = 0xBF ∧ t.pc = 0x00002 ∧ t.cycles = 1 ∧ t.reg 5 = 0xFE) = true := by decide

theorem test_bld_v4_22 :
    gives [r 5 0xFF, sreg 0x00, code 0x0 [0xF853]]
      (fun t => t.sreg = 0x00 ∧ t.pc = 0x00002 ∧ t.cycles = 1 ∧ t.reg 5 = 0xF7) = true := by decide

theorem test_sbi_v4_24 :
    gives [byte 0x3F 0x01, code 0x0 [0x9AFF]]
      (fun t => t.sreg = 0x00 ∧ t.pc = 0x00002 ∧ t.cycles = 2 ∧ t.peek 0x003F = some 0x81) = true := by decide

theorem test_cbi_v4_25 :
    gives [byte 0x25 0xFF, code 0x0 [0x982B]]
      (fun t => t.sreg = 0x00 ∧ t.pc = 0x00002 ∧ t.cycles = 2 ∧ t.peek 0x0025 = some 0xF7) = true := by decide

theorem test_mov_v5_1 :
    gives [r 31 0x5A, sreg 0xFF, code 0x0 [0x2E0F]]
      (fun t => t.sreg = 0xFF ∧ t.pc = 0x00002 ∧ t.cycles = 1 ∧ t.reg 0 = 0x5A) = true := by decide

theorem test_movw_v5_2 :
    gives [r 31 0x12, r 30 0x34, code 0x0 [0x010F]]
      (fun t => t.sreg = 0x00 ∧ t.pc = 0x00002 ∧ t.cycles = 1 ∧ t.reg 1 = 0x12 ∧ t.reg 0 = 0x34) = true := by decide

theorem test_ldi_v5_4 :
    gives [r 16 0x00, code 0x0 [0xEF0F]]
      (fun t => t.sreg = 0x00 ∧ t.pc = 0x00002 ∧ t.cycles = 1 ∧ t.reg 16 = 0xFF) = true := by decide

theorem test_ld_r_x_v6_8 :
    gives [r 26 0x1A, r 27 0x00, ptr .x 0x001A, code 0x0 [0x91AC]]
      (fun t => t.sreg = 0x00 ∧ t.pc = 0x00002 ∧ t.cycles = 2 ∧ t.reg 26 = 0x1A ∧ t.reg 27 = 0x00) = true := by decide

theorem test_ld_r_x_inc_v6_3 :
    gives [ptr .x 0x00FF, byte 0x00FF 0xCD, code 0x0 [0x905D]]
      (fun t => t.sreg = 0x00 ∧ t.pc = 0x00002 ∧ t.cycles = 2 ∧ t.reg 5 = 0xCD ∧ t.reg 27 = 0x01 ∧ t.reg 26 = 0x00) = true := by decide

theorem test_ld_r_x_inc_v6_10 :
    faults [ptr .x 0xFFFF, code 0x0 [0x905D]] (.outOfRange .dataRead 0xFFFF) = true := by decide

theorem test_ld_r_dec_x_v6_9 :
    faults [ptr .x 0x0000, code 0x0 [0x905E]] (.outOfRange .dataRead 0xFFFF) = true := by decide

theorem test_ld_r_z_inc_v6_5 :
    gives [ptr .z 0x0100, byte 0x0100 0x11, code 0x0 [0x9051]]
      (fun t => t.sreg = 0x00 ∧ t.pc = 0x00002 ∧ t.cycles = 2 ∧ t.reg 5 = 0x11 ∧ t.reg 31 = 0x01 ∧ t.reg 30 = 0x01) = true := by decide

theorem test_ld_r_dec_y_v6_6 :
    gives [ptr .y 0x0050, byte 0x004F 0x22, code 0x0 [0x905A]]
      (fun t => t.sreg = 0x00 ∧ t.pc = 0x00002 ∧ t.cycles = 2 ∧ t.reg 5 = 0x22 ∧ t.reg 29 = 0x00 ∧ t.reg 28 = 0x4F) = true := by decide

theorem test_ld_r_y_inc_v6_7 :
    gives [r 3 0x77, ptr .y 0x0003, code 0x0 [0x9059]]
      (fun t => t.sreg = 0x00 ∧ t.pc = 0x00002 ∧ t.cycles = 2 ∧ t.reg 5 = 0x77 ∧ t.reg 29 = 0x00 ∧ t.reg 28 = 0x04) = true := by decide

theorem test_ldd_r_y_inc63_v6_11 :
    gives [ptr .y 0x0100, byte 0x013F 0x99, code 0x0 [0xAC5F]]
      (fun t => t.sreg = 0x00 ∧ t.pc = 0x00002 ∧ t.cycles = 2 ∧ t.reg 5 = 0x99) = true := by decide

theorem test_ldd_r_z_inc1_v6_12 :
    gives [ptr .z 0x001F, byte 0x20 0x3C, code 0x0 [0x8051]]
      (fun t => t.sreg = 0x00 ∧ t.pc = 0x00002 ∧ t.cycles = 2 ∧ t.reg 5 = 0x3C) = true := by decide

theorem test_ldd_r_y_inc0_v6_13 :
    gives [ptr .y 0x10FF, byte 0x10FF 0xEE, code 0x0 [0x8058]]
      (fun t => t.sreg = 0x00 ∧ t.pc = 0x00002 ∧ t.cycles = 2 ∧ t.reg 5 = 0xEE) = true := by decide

theorem test_ldd_r_z_inc63_v6_15 :
    faults [ptr .z 0xFFFF, code 0x0 [0xAC57]] (.outOfRange .dataRead 0x1003E) = true := by decide

theorem test_lds_v16_11 :
    gives [smaller, byte 0x60 0xC7, code 0x00000 [0x9050, 0x0060]]
      (fun t => t.sreg = 0x00 ∧ t.pc = 0x00004 ∧ t.cycles = 2 ∧ t.reg 5 = 0xC7) = true := by decide

theorem test_lds_v16_3 : faults [small, code 0x07FFE [0x9050]] (.outOfRange .fetch 0x08000) = true := by decide

theorem test_st_x_r_v6_19 :
    gives [r 5 0xAB, ptr .x 0x0100, code 0x0 [0x925C]]
      (fun t => t.sreg = 0x00 ∧ t.pc = 0x00002 ∧ t.cycles = 2 ∧ t.reg 27 = 0x01 ∧ t.reg 26 = 0x00 ∧ t.peek 0x0100 = some 0xAB) = true := by decide

theorem test_st_x_inc_r_v6_20 :
    gives [r 5 0xAB, ptr .x 0x0100, code 0x0 [0x925D]]
      (fun t => t.sreg = 0x00 ∧ t.pc = 0x00002 ∧ t.cycles = 2 ∧ t.reg 27 = 0x01 ∧ t.reg 26 = 0x01 ∧ t.peek 0x0100 = some 0xAB) = true := by decide

theorem test_st_dec_x_r_v6_21 :
    gives [r 5 0xAB, ptr .x 0x0100, code 0x0 [0x925E]]
      (fun t => t.sreg = 0x00 ∧ t.pc = 0x00002 ∧ t.cycles = 2 ∧ t.reg 27 = 0x00 ∧ t.reg 26 = 0xFF ∧ t.peek 0x00FF = some 0xAB) = true := by decide

theorem test_st_y_inc_r_v6_22 :
    gives [r 5 0xAB, ptr .y 0x0010, code 0x0 [0x9259]]
      (fun t => t.sreg = 0x00 ∧ t.pc = 0x00002 ∧ t.cycles = 2 ∧ t.reg 16 = 0xAB ∧ t.reg 29 = 0x00 ∧ t.reg 28 = 0x11) = true := by decide

theorem test_st_dec_z_r_v6_23 :
    gives [r 5 0xC3, ptr .z 0x0060, code 0x0 [0x9252]]
      (fun t => t.sreg = 0xC3 ∧ t.pc = 0x00002 ∧ t.cycles = 2 ∧ t.reg 31 = 0x00 ∧ t.reg 30 = 0x5F) = true := by decide

theorem test_st_z_inc_r_v6_24 :
    faults [r 5 0xAB, ptr .z 0x1100, code 0x0 [0x9251]] (.outOfRange .dataWrite 0x1100) = true := by decide

theorem test_std_y_inc2_r_v6_26 :
    gives [r 5 0x7E, ptr .y 0x0100, code 0x0 [0x825A]]
      (fun t => t.sreg = 0x00 ∧ t.pc = 0x00002 ∧ t.cycles = 2 ∧ t.peek 0x0102 = some 0x7E) = true := by decide

theorem test_std_z_inc63_r_v6_27 :
    gives [r 5 0x7E, ptr .z 0x0000, code 0x0 [0xAE57]]
      (fun t => t.sreg = 0x00 ∧ t.pc = 0x00002 ∧ t.cycles = 2 ∧ t.peek 0x003F = some 0x7E) = true := by decide

theorem test_std_z_inc0_r_v6_28 :
    gives [r 5 0x7E, ptr .z 0x001E, code 0x0 [0x8250]]
      (fun t => t.sreg = 0x00 ∧ t.pc = 0x00002 ∧ t.cycles = 2 ∧ t.reg 30 = 0x7E ∧ t.reg 31 = 0x00) = true := by decide

theorem test_sts_v6_29 :
    gives [r 5 0x34, sp 0x0000, code 0x0 [0x9250, 0x005D]]
      (fun t => t.sreg = 0x00 ∧ t.pc = 0x00004 ∧ t.cycles = 2 ∧ t.sp = 0x0034) = true := by decide

theorem test_lpm_v8_1 :
    gives [image, ptr .z 0x0100, code 0x0 [0x95C8]]
      (fun t => t.sreg = 0x00 ∧ t.pc = 0x00002 ∧ t.cycles = 3 ∧ t.reg 0 = 0x11 ∧ t.reg 31 = 0x01 ∧ t.reg 30 = 0x00) = true := by decide

theorem test_lpm_r_z_v8_6 :
    gives [image, ptr .z 0x0001, code 0x0 [0x9054]]
      (fun t => t.sreg = 0x00 ∧ t.pc = 0x00002 ∧ t.cycles = 3 ∧ t.reg 5 = 0x90) = true := by decide

theorem test_lpm_r_z_v16_9 :
    faults [small, ptr .z 0x8000, code 0x00000 [0x9054]] (.outOfRange .flashRead 0x08000) = true := by decide

theorem test_lpm_r_z_inc_v8_4 :
    gives [image, ptr .z 0xFFFF, code 0x0 [0x9055]]
      (fun t => t.sreg = 0x00 ∧ t.pc = 0x00002 ∧ t.cycles = 3 ∧ t.reg 5 = 0x00 ∧ t.reg 31 = 0x00 ∧ t.reg 30 = 0x00) = true := by decide

theorem test_elpm_v8_7 :
    gives [image, ptr .z 0x0100, byte 0x5B 0x01, code 0x0 [0x95D8]]
      (fun t => t.sreg = 0x00 ∧ t.pc = 0x00002 ∧ t.cycles = 3 ∧ t.reg 0 = 0xAA) = true := by decide

theorem test_elpm_r_z_v8_9 :
    gives [image, ptr .z 0x0101, byte 0x5B 0xFF, code 0x0 [0x9056]]
      (fun t => t.sreg = 0x00 ∧ t.pc = 0x00002 ∧ t.cycles = 3 ∧ t.reg 5 = 0xBB) = true := by decide

theorem test_elpm_r_z_v16_10 :
    gives [small, ptr .z 0x0000, code 0x00000 [0x9056]]
      (fun t => t.sreg = 0x00 ∧ t.pc = 0x00002 ∧ t.cycles = 3 ∧ t.reg 5 = 0x56) = true := by decide

theorem test_elpm_r_z_inc_v8_10 :
    gives [image, ptr .z 0xFFFF, byte 0x5B 0x01, code 0x0 [0x9057]]
      (fun t => t.sreg = 0x00 ∧ t.pc = 0x00002 ∧ t.cycles = 3 ∧ t.reg 5 = 0xEE ∧ t.reg 31 = 0x00 ∧ t.reg 30 = 0x00) = true := by decide

theorem test_in_v9_1 :
    gives [sreg 0xA5, code 0x0 [0xB65F]]
      (fun t => t.sreg = 0xA5 ∧ t.pc = 0x00002 ∧ t.cycles = 1 ∧ t.reg 5 = 0xA5) = true := by decide

theorem test_out_v9_3 :
    gives [r 5 0x10, sreg 0x00, code 0x0 [0xBE5F]]
      (fun t => t.sreg = 0x10 ∧ t.pc = 0x00002 ∧ t.cycles = 1) = true := by decide

theorem test_push_v9_16 :
    gives [r 5 0xAB, sp 0x005E, code 0x0 [0x925F]]
      (fun t => t.sreg = 0x00 ∧ t.pc = 0x00002 ∧ t.cycles = 2 ∧ t.sp = 0x005D) = true := by decide

theorem test_push_v9_17 :
    faults [r 5 0xAB, sp 0x1100, code 0x0 [0x925F]] (.outOfRange .dataWrite 0x1100) = true := by decide

theorem test_pop_v9_15 :
    gives [r 0 0x9C, sp 0xFFFF, code 0x0 [0x905F]]
      (fun t => t.sreg = 0x00 ∧ t.pc = 0x00002 ∧ t.cycles = 2 ∧ t.reg 5 = 0x9C ∧ t.sp = 0x0000) = true := by decide

theorem test_pop_v9_13 :
    faults [r 5 0x33, sp 0x10FF, code 0x0 [0x905F]] (.outOfRange .dataRead 0x1100) = true := by decide

theorem test_rjmp_v10_4 :
    gives [code 0x02000 [0xC800]]
      (fun t => t.sreg = 0x00 ∧ t.pc = 0x01002 ∧ t.cycles = 2) = true := by decide

theorem test_rjmp_v10_6 :
    gives [code 0x1FFFE [0xC001]]
      (fun t => t.sreg = 0x00 ∧ t.pc = 0x00002 ∧ t.cycles = 2) = true := by decide

theorem test_ijmp_v10_8 :
    gives [ptr .z 0xFFFF, code 0x00000 [0x9409]]
      (fun t => t.sreg = 0x00 ∧ t.pc = 0x1FFFE ∧ t.cycles = 2) = true := by decide

theorem test_jmp_v10_12 :
    gives [code 0x00000 [0x95FD, 0xFFFF]]
      (fun t => t.sreg = 0x00 ∧ t.pc = 0x1FFFE ∧ t.cycles = 3) = true := by decide

theorem test_rcall_v11_1 :
    gives [sp 0x10FF, code 0x00200 [0xD003]]
      (fun t => t.sreg = 0x00 ∧ t.pc = 0x00208 ∧ t.cycles = 3 ∧ t.sp = 0x10FD ∧ t.peek 0x10FF = some 0x01 ∧ t.peek 0x10FE = some 0x01) = true := by decide

theorem test_icall_v11_3 :
    gives [ptr .z 0x0010, sp 0x10FF, code 0x001FE [0x9509]]
      (fun t => t.sreg = 0x00 ∧ t.pc = 0x00020 ∧ t.cycles = 3 ∧ t.sp = 0x10FD ∧ t.peek 0x10FF = some 0x00 ∧ t.peek 0x10FE = some 0x01) = true := by decide

theorem test_call_v11_5 :
    gives [sp 0x10FF, code 0x1FFFC [0x940E, 0x0010]]
      (fun t => t.sreg = 0x00 ∧ t.pc = 0x00020 ∧ t.cycles = 4 ∧ t.sp = 0x10FD ∧ t.peek 0x10FF = some 0x00 ∧ t.peek 0x10FE = some 0x00) = true := by decide

theorem test_call_v11_10 :
    faults [r 0 0x55, sp 0x0000, code 0x00000 [0x940E, 0x0010]] (.outOfRange .dataWrite 0xFFFF) = true := by decide

theorem test_ret_v11_12 :
    gives [r 1 0x12, r 2 0x34, sp 0x0000, code 0x00000 [0x9508]]
      (fun t => t.sreg = 0x00 ∧ t.pc = 0x02468 ∧ t.cycles = 4 ∧ t.sp = 0x0002) = true := by decide

theorem test_ret_v11_13 : faults [sp 0x10FE, code 0x00000 [0x9508]] (.outOfRange .dataRead 0x1100) = true := by decide

theorem test_reti_v11_9 :
    gives [sp 0x10FD, sreg 0x83, byte 0x10FE 0x00, byte 0x10FF 0x02, code 0x00020 [0x9518]]
      (fun t => t.sreg = 0x83 ∧ t.pc = 0x00004 ∧ t.cycles = 4 ∧ t.sp = 0x10FF) = true := by decide

theorem test_brbs_v12_6 :
    gives [sreg 0x01, code 0x00100 [0xF200]]
      (fun t => t.sreg = 0x01 ∧ t.pc = 0x00082 ∧ t.cycles = 2) = true := by decide

theorem test_brbs_v12_2 :
    gives [sreg 0xFD, code 0x00100 [0xF029]]
      (fun t => t.sreg = 0xFD ∧ t.pc = 0x00102 ∧ t.cycles = 1) = true := by decide

theorem test_brbc_v12_3 :
    gives [sreg 0x00, code 0x00100 [0xF7E9]]
      (fun t => t.sreg = 0x00 ∧ t.pc = 0x000FC ∧ t.cycles = 2) = true := by decide

theorem test_brbc_v12_10 :
    gives [sreg 0x00, code 0x00000 [0xF7F0]]
      (fun t => t.sreg = 0x00 ∧ t.pc = 0x1FFFE ∧ t.cycles = 2) = true := by decide

theorem test_cpse_v13_4 :
    gives [sreg 0xFF, code 0x00100 [0x1055, 0x940C, 0x0000]]
      (fun t => t.sreg = 0xFF ∧ t.pc = 0x00106 ∧ t.cycles = 3) = true := by decide

theorem test_cpse_v13_17 :
    gives [r 5 0x01, r 6 0x02, code 0x1FFFE [0x1056]]
      (fun t => t.sreg = 0x00 ∧ t.pc = 0x00000 ∧ t.cycles = 1) = true := by decide

theorem test_sbrc_v13_5 :
    gives [r 5 0x7F, code 0x00100 [0xFC57, 0x0000]]
      (fun t => t.sreg = 0x00 ∧ t.pc = 0x00104 ∧ t.cycles = 2) = true := by decide

theorem test_sbrs_v13_7 :
    gives [r 5 0x01, code 0x00100 [0xFE50, 0x9250, 0x0100]]
      (fun t => t.sreg = 0x00 ∧ t.pc = 0x00106 ∧ t.cycles = 3 ∧ t.peek 0x0100 = some 0x00) = true := by decide

theorem test_sbrs_v13_15 :
    gives [r 5 0x01, code 0x00100 [0xFE50, 0x9204]]
      (fun t => t.sreg = 0x00 ∧ t.pc = 0x00104 ∧ t.cycles = 2) = true := by decide

theorem test_sbic_v13_10 :
    gives [byte 0x25 0xF7, code 0x00100 [0x992B, 0x940E, 0x0000]]
      (fun t => t.sreg = 0x00 ∧ t.pc = 0x00106 ∧ t.cycles = 3) = true := by decide

theorem test_sbic_v13_11 :
    gives [byte 0x25 0x08, code 0x00100 [0x992B, 0x0000]]
      (fun t => t.sreg = 0x00 ∧ t.pc = 0x00102 ∧ t.cycles = 1) = true := by decide

theorem test_sbis_v13_12 :
    gives [byte 0x3F 0x80, code 0x00100 [0x9BFF, 0x0000]]
      (fun t => t.sreg = 0x00 ∧ t.pc = 0x00104 ∧ t.cycles = 2) = true := by decide

theorem test_nop_v16_2 :
    gives [small, code 0x07FFE [0x0000]]
      (fun t => t.sreg = 0x00 ∧ t.pc = 0x08000 ∧ t.cycles = 1) = true := by decide

theorem test_sleep_v14_2 : faults [code 0x00100 [0x9588]] (.unimplemented .sleep) = true := by decide

theorem test_wdr_v14_3 : faults [code 0x00100 [0x95A8]] (.unimplemented .wdr) = true := by decide

theorem test_break_v14_4 : faults [code 0x00100 [0x9598]] (.unimplemented .break_) = true := by decide

theorem test_spm_v14_5 : faults [code 0x00100 [0x95E8]] (.unimplemented .spm) = true := by decide

theorem test_eijmp_v14_6 : faults [code 0x00100 [0x9419]] (.unimplemented .eijmp) = true := by decide

theorem test_eicall_v14_7 : faults [code 0x00100 [0x9519]] (.unimplemented .eicall) = true := by decide

theorem test_any_v16_1 : faults [small, code 0x08000 []] (.outOfRange .fetch 0x08000) = true := by decide

theorem test_ld_overlap_v7_1 : faults [ptr .x 0x0100, code 0x0 [0x91AD]] (.unpredictable .ldXp) = true := by decide

theorem test_st_overlap_v7_6 : faults [ptr .y 0x0100, code 0x0 [0x93CA]] (.unpredictable .stMy) = true := by decide

theorem test_lpm_overlap_v7_8 : faults [ptr .z 0x0000, code 0x0 [0x91E5]] (.unpredictable .lpmZp) = true := by decide

theorem test_no_overlap_v7_10 :
    gives [ptr .y 0x0100, byte 0x0100 0x5A, code 0x0 [0x91A9]]
      (fun t => t.sreg = 0x00 ∧ t.pc = 0x00002 ∧ t.cycles = 2 ∧ t.reg 26 = 0x5A ∧ t.reg 29 = 0x01 ∧ t.reg 28 = 0x01) = true := by decide

theorem test_illegal_word_v15_1 :
    faults [sreg 0xA5, code 0x00100 [0x0001]] (.decodeFailure 0x00100 0x0001) = true := by decide

theorem test_erased_flash_v15_9 :
    faults [sreg 0xA5, code 0x00100 [0xFFFF]] (.decodeFailure 0x00100 0xFFFF) = true := by decide

/-- 20 R86, 92 D16: SBI on a plugged-in handler calls it twice, reading first (the newest call is first in the list). -/
theorem test_sbi_calls_handler_twice :
    (nextOf (exec (.sbi 5 3) (setup [plug 5]))).map (fun t => t.ioTrace.map fun call =>
      match call with
      | .read i _ => (false, i)
      | .write i _ => (true, i)) = some [(true, 5), (false, 5)] := by decide

/-- Table V17, row 1. -/
theorem test_interrupt_v17_1 :
    (nextOf ((setup [sp 0x10FF, sreg 0x81, code 0x16 []]).invokeInterrupt irqVector 1)).any (fun t =>
      t.pc = 0x4 ∧ t.nextpc = 0x4 ∧ t.sp = 0x10FD ∧ t.sreg = 0x01 ∧ t.peek 0x10FF = some 0x0B ∧
        t.peek 0x10FE = some 0x00 ∧ t.cycles = 4) = true := by decide

/-- Table V17, row 4: the pushes write r1 and r0. -/
theorem test_interrupt_v17_4 :
    (nextOf ((setup [sp 0x0001, sreg 0x80, r 0 0xEE, r 1 0xEE]).invokeInterrupt irqVector 2)).any (fun t =>
      t.pc = 0x8 ∧ t.sp = 0xFFFF ∧ t.sreg = 0x00 ∧ t.reg 1 = 0x00 ∧ t.reg 0 = 0x00 ∧ t.cycles = 4) = true := by decide

/-- 60 R502: a device whose `UNIMPL_SET` holds ADD alone: ADD faults, SUB runs, SLEEP has no meaning to run. -/
theorem test_unimplSet_is_a_parameter :
    faults [unimplements .add, code 0 [0x0C56]] (.unimplemented .add) = true ∧
      gives [unimplements .add, code 0 [0x1856]] (fun t => t.pc = 2) = true ∧
      faults [unimplements .add, code 0 [0x9588]] (.unsupplied .sleep) = true := by decide

/-- 70 R580, R581: a device whose RJMP costs 5 and BRBC 3; a taken branch still adds 1. -/
theorem test_cycBase_is_a_parameter :
    gives [costs .rjmp 5, code 0 [0xC000]] (fun t => t.cycles = 5) = true ∧
      gives [costs .brbc 3, code 0 [0xF400]] (fun t => t.cycles = 4) = true := by decide

/-- 60 R520: with I clear the driver does not enter. -/
theorem test_driver_checks_i :
    driverRun irqVector [.interrupt 1] (setup [sp 0x10FF, sreg 0x7F]) = .ended (setup [sp 0x10FF, sreg 0x7F]) := by decide

/-- 60 R508: the fault comes with the state before the faulting step, and nothing runs after it. -/
theorem test_driver_returns_the_unchanged_state :
    (match driverRun irqVector [.instruction, .instruction, .instruction] (setup [code 0 [0x9408, 0x9588]]) with
     | .faulted t e => decide (t.pc = 2 ∧ t.cycles = 1 ∧ t.flags.c = true ∧ e = .unimplemented .sleep)
     | .ended _ | .refused _ _ => false) = true := by decide

/-! ### Witnesses: a state and operands that meet the hypotheses of a statement, each clause at a boundary -/

/-- A one-word instruction in the last word of program memory, and a two-word one in the last two. -/
theorem witness_StepRunsDecodedInstruction :
    let s := setup [small, code 0x7FFE [0x0C56]]
    let u := setup [small, code 0x7FFC [0x940C, 0x4000]]
    (decode [s.flash.read s.pc, s.flash.read (s.pc + 1), s.flash.read (s.pc + 2), s.flash.read (s.pc + 3)]
        = .ok (.add 5 6, [0x00, 0x00]) ∧ s.pc + (4 - [0x00, 0x00].length) ≤ s.dev.flashBytes) ∧
      (decode [u.flash.read u.pc, u.flash.read (u.pc + 1), u.flash.read (u.pc + 2), u.flash.read (u.pc + 3)]
        = .ok (.jmp 0x4000, []) ∧ u.pc + (4 - ([] : List Byte).length) ≤ u.dev.flashBytes) :=
  ⟨⟨rfl, by decide⟩, rfl, by decide⟩

theorem witness_FetchFaultsInOrder :
    let s := setup [small, code 0x7FFF []]
    let u := setup [small, code 0x7FFE [0xFFFF]]
    let v := setup [small, code 0x7FFE [0x9050]]
    s.dev.flashBytes ≤ s.pc + 1 ∧
      (u.pc + 1 < u.dev.flashBytes ∧ decodeFirst (u.flash.read (u.pc + 1) ++ u.flash.read u.pc) = none) ∧
      (v.pc + 1 < v.dev.flashBytes ∧ decodeFirst (v.flash.read (v.pc + 1) ++ v.flash.read v.pc) ≠ none ∧
        is4 (v.flash.read (v.pc + 1) ++ v.flash.read v.pc) = true ∧ v.dev.flashBytes ≤ v.pc + 3) := by decide

theorem witness_StepContinuesInLine :
    let s := setup [code 0x1FFFE [0x0C56]]
    s.fetchInstr = .ok (.add 5 6, 2) ∧ isControl (.add 5 6) = false ∧ (nextOf (step s)).isSome = true :=
  ⟨rfl, by decide, by decide⟩

theorem witness_EncodedInstructionDecodes : Instr.wellFormed (.jmp 0x3FFFFF) = true := by decide

theorem witness_DecodedInstructionEncodes : decode [0x56, 0x0C, 0xFF] = .ok (.add 5 6, [0xFF]) := rfl

theorem witness_OpcodeRowsAreDisjoint :
    (∃ row ∈ opcodeRows, row.fits 0x940C = true) ∧ ∀ row ∈ opcodeRows, row.fits 0xFFFF = false := by decide

theorem witness_FourByteInstructionsAreFour :
    decodeFirst 0x95FF = some .call ∧ decodeFirst 0x91FF = some .pop := by decide

theorem witness_AliasesAreTheirExpansions :
    Instr.isAlias (.andi 0 0) = false ∧ Instr.isAlias (.cbr 0 0) = true := by decide

/-- CALL at 0x100 with the stack at the top of RAM, one I/O byte, one RAM byte and interrupts on. -/
def running : State := setup [sp 0x10FF, sreg 0x80, byte 0x20 0x01, byte 0x100 0x02, code 0x100 [0x940E, 0x0010]]

theorem running_inv : running.Inv := by constructor <;> decide

theorem witness_StepKeepsInvariant : running.Inv ∧ (nextOf (step running)).isSome = true := ⟨running_inv, by decide⟩

theorem witness_DriverRunKeepsInvariant :
    (∀ n, irqVector n % 2 = 0) ∧ running.Inv ∧
      (match driverRun irqVector [.instruction, .interrupt 1] running with
       | .ended t => t.pc == 4
       | .faulted _ _ | .refused _ _ => false) = true :=
  ⟨fun n => by unfold irqVector; omega, running_inv, by decide⟩

/-- A device that implements the instruction is the default one, for all but the six. -/
theorem reset_implements (i : Instr) (h : i.mnemonic ∉ Config.defaultUnimplSet) : State.reset.implements i := h

theorem witness_UnimplementedInstructionsFault :
    Mnemonic.sleep ∈ State.reset.dev.unimplSet ∧ (Instr.lsl 0).mnemonic ∈ (setup [unimplements .add]).dev.unimplSet ∧
      (Instr.ldXp 26).mnemonic ∈ (setup [unimplements .ldXp]).dev.unimplSet := by decide

theorem witness_PointerOverlapFaults : overlapOf (.ldXp 26) = some .ldXp ∧ State.reset.implements (.ldXp 26) := by decide

theorem witness_ExecFaultCatalogue :
    faultOf (exec .spm running) = some (.unimplemented .spm) ∧
      faultOf (exec .spm (setup [unimplements .add])) = some (.unsupplied .spm) ∧
      faultOf (exec (.ldXp 26) running) = some (.unpredictable .ldXp) ∧
      faultOf (exec (.cpse 0 0) (setup [small, code 0x7FFF []])) = some (.outOfRange .fetch 0x7FFF) ∧
      faultOf (exec (.lds 0 0x1100) running) = some (.outOfRange .dataRead 0x1100) ∧
      faultOf (exec (.sts 0x1100 0) running) = some (.outOfRange .dataWrite 0x1100) ∧
      faultOf (exec (.lpmZ 0) (setup [small, ptr .z 0x8000])) = some (.outOfRange .flashRead 0x8000) := by decide

/-- The first and last address of each region of the data space, and the first beyond it. -/
theorem witness_DataReadRoutesByAddress :
    let d := running.dev
    (31 < 32) ∧ (32 ≤ 32 ∧ 32 < 32 + d.nIo) ∧ (32 ≤ 0xFF ∧ 0xFF < 32 + d.nIo) ∧
      (32 + d.nIo ≤ 0x100 ∧ 0x100 < d.segSize) ∧ (32 + d.nIo ≤ 0x10FF ∧ 0x10FF < d.segSize) ∧ d.segSize ≤ 0x1100 := by
  decide

theorem witness_DataWriteIsReadBack :
    let s := setup [plug 5]
    s.io.wf = true ∧ s.ram.wf = true ∧
      ((s.memWrite 0x10FF 0x55).toOption.isSome = true ∧ s.peek 0x10FF ≠ none) ∧
      ((s.memWrite 0x25 0x55).toOption.isSome = true ∧ s.peek 0x25 = none) := by decide

theorem witness_IoAndDataAddressesAgree :
    let s := setup [smaller]
    64 ≤ s.dev.nIo ∧ s.implements (.in_ 31 63) ∧ s.implements (.lds 31 95) ∧ s.implements (.out 63 31) ∧
      s.implements (.sts 95 31) := by decide

theorem witness_ProgramMemoryReads :
    let d := (setup [small]).dev
    0x7FFF < d.flashBytes ∧ d.flashBytes ≤ 0x8000 ∧ 0x7FFE + 1 < d.flashBytes ∧ d.flashBytes ≤ 0x7FFF + 1 := by decide

theorem witness_StackPrimitives :
    let s := setup [sp 0x10FF]
    let u := setup [sp 0x1100]
    let v := setup [sp 0x0000]
    s.sp.toNat < s.dev.segSize ∧ u.dev.segSize ≤ u.sp.toNat ∧ v.sp = 0 ∧ v.dev.segSize < 65536 := by decide

theorem witness_AdditionsComplete :
    ∀ i ∈ [Instr.add 31 0, .adc 31 0, .lsl 31, .rol 31], State.reset.implements i := by decide

theorem witness_SubtractionsComplete :
    ∀ i ∈ [Instr.sub 31 0, .subi 15 255, .sbc 31 0, .sbci 15 255, .neg 31], State.reset.implements i := by decide

theorem witness_ComparesComplete :
    ∀ i ∈ [Instr.cp 31 0, .cpc 31 0, .cpi 15 255], State.reset.implements i := by decide

theorem witness_LogicCompletes :
    ∀ i ∈ [Instr.and 31 0, .or 31 0, .eor 31 0, .tst 31, .clr 31, .andi 15 0, .ori 15 0,
      .sbr 15 0, .cbr 15 0], State.reset.implements i := by decide

theorem witness_OneRegisterArithmeticCompletes :
    ∀ i ∈ [Instr.com 31, .inc 31, .dec 31], State.reset.implements i := by decide

theorem witness_WordArithmeticCompletes :
    ∀ i ∈ [Instr.adiw 3 63, .sbiw 3 63], State.reset.implements i := by decide

theorem witness_MultipliesComplete :
    ∀ i ∈ [Instr.mul 31 0, .muls 15 0, .mulsu 7 0, .fmul 7 0, .fmuls 7 0, .fmulsu 7 0], State.reset.implements i := by decide

theorem witness_RightShiftsComplete :
    ∀ i ∈ [Instr.lsr 31, .asr 31, .ror 31], State.reset.implements i := by decide

theorem witness_RegisterMovesComplete :
    ∀ i ∈ [Instr.mov 31 0, .ldi 15 255, .ser 15, .movw 15 0, .swap 31, .bld 31 7], State.reset.implements i := by decide

theorem witness_FlagWritesComplete :
    ∀ i ∈ [Instr.bset 7, .bclr 0, .bst 31 7, .sec, .sez, .sen, .sev, .ses, .seh, .set_, .sei,
      .clc, .clz, .cln, .clv, .cls, .clh, .clt, .cli], State.reset.implements i := by decide

/-- Index 0x3B is RAMPZ's on the default device, and an ordinary one, with or without a handler, on a device without. -/
theorem witness_IoInstructionsComplete_indices :
    let ordinary (d : Device) (i : Nat) : Prop :=
      i ≠ d.sregIo ∧ i ≠ d.splIo ∧ i ≠ d.sphIo ∧ (d.hasRampz = true → i ≠ d.rampzIo)
    let s := setup [plug 5]
    (s.dev.wf = true ∧ s.dev.hasRampz = true) ∧
      (ordinary s.dev 5 ∧ 5 ∈ s.dev.plugged) ∧
      (∀ i ∈ [0, 6, 0x3C, 0x40, 223], ordinary s.dev i ∧ i ∉ s.dev.plugged) ∧
      (ordinary (setup [small]).dev 0x3B ∧ 0x3B ∉ (setup [small]).dev.plugged) ∧
      (ordinary (setup [small, plug 0x3B]).dev 0x3B ∧ 0x3B ∈ (setup [small, plug 0x3B]).dev.plugged) := by decide

theorem witness_IoInstructionsComplete :
    let s := setup [plug 5]
    s.ioPeek (6 : IMM6).toNat = some 0x00 ∧ s.ioPeek (5 : IMM6).toNat = none ∧
      s.ioPeek (6 : IMM5).toNat = some 0x00 ∧ s.ioPeek (5 : IMM5).toNat = none ∧
      (∀ i ∈ [Instr.in_ 31 5, .in_ 31 6, .out 5 31, .sbi 5 7, .cbi 6 7], s.implements i) := by decide

theorem witness_LoadsComplete :
    let s := setup [ptr .x 0x10FF]
    let u := setup [ptr .x 0x1100]
    (loadOperand (.ldXp 5) s = some (gpr 5, 0x10FF, s.setPair 13 0x1100) ∧ overlapOf (.ldXp 5) = none ∧
      0x10FF < s.dev.segSize) ∧
      (loadOperand (.ldXp 5) u = some (gpr 5, 0x1100, u.setPair 13 0x1101) ∧ u.dev.segSize ≤ 0x1100) ∧
      s.implements (.ldXp 5) := by decide

theorem witness_StoresComplete :
    let s := setup [ptr .y 0x10C1, r 5 0xAB]
    let u := setup [ptr .y 0x10C2, r 5 0xAB]
    (storeOperand (.stdY 0x3E 5) s = some (0xAB, 0x10FF, s) ∧ overlapOf (.stdY 0x3E 5) = none ∧
      0x10FF < s.dev.segSize) ∧
      (storeOperand (.stdY 0x3E 5) u = some (0xAB, 0x1100, u) ∧ u.dev.segSize ≤ 0x1100) ∧
      s.implements (.stdY 0x3E 5) := by decide

theorem witness_ProgramMemoryLoadsComplete_address :
    State.reset.dev.hasRampz = true ∧ (setup [small]).dev.hasRampz = false := by decide

theorem witness_ProgramMemoryLoadsComplete :
    let s := setup [small, ptr .z 0x7FFF]
    let u := setup [small, ptr .z 0x8000]
    (flashOperand (.elpmZp 5) s = some (gpr 5, 0x7FFF, s.setPair 15 0x8000) ∧ overlapOf (.elpmZp 5) = none ∧
      0x7FFF < s.dev.flashBytes) ∧
      (flashOperand (.elpmZp 5) u = some (gpr 5, 0x8000, u.setPair 15 0x8001) ∧ u.dev.flashBytes ≤ 0x8000) ∧
      s.implements (.elpmZp 5) := by decide

theorem witness_StackTransfersComplete :
    let s := setup [sp 0x10FF]
    let u := setup [sp 0x1100]
    let v := setup [sp 0x10FE]
    s.sp.toNat < s.dev.segSize ∧ u.dev.segSize ≤ u.sp.toNat ∧ (v.sp + 1).toNat < v.dev.segSize ∧
      s.dev.segSize ≤ (s.sp + 1).toNat ∧ s.implements (.push 31) ∧ s.implements (.pop 31) := by decide

theorem witness_PushThenPopReturnsTheByte :
    let s := setup [sp 0x0100]
    s.implements (.push 31) ∧ s.implements (.pop 0) ∧ s.ram.wf = true ∧ 32 + s.dev.nIo ≤ s.sp.toNat ∧
      s.sp.toNat < s.dev.segSize := by decide

theorem witness_JumpsComplete :
    ∀ i ∈ [Instr.rjmp 0x800, .ijmp, .jmp 0x3FFFFF], State.reset.implements i := by decide

theorem witness_CallsComplete :
    let s := setup [sp 0x10FF]
    let u := setup [sp 0x1100]
    let v := setup [sp 0x0000]
    (s.sp.toNat < s.dev.segSize ∧ (s.sp - 1).toNat < s.dev.segSize) ∧ u.dev.segSize ≤ u.sp.toNat ∧
      (v.sp.toNat < v.dev.segSize ∧ v.dev.segSize ≤ (v.sp - 1).toNat) ∧
      (∀ i ∈ [Instr.rcall 0, .icall, .call 0], s.implements i) := by decide

theorem witness_ReturnsComplete :
    let s := setup [sp 0x10FD]
    let u := setup [sp 0x10FF]
    let v := setup [sp 0x10FE]
    ((s.sp + 1).toNat < s.dev.segSize ∧ (s.sp + 2).toNat < s.dev.segSize) ∧ u.dev.segSize ≤ (u.sp + 1).toNat ∧
      ((v.sp + 1).toNat < v.dev.segSize ∧ v.dev.segSize ≤ (v.sp + 2).toNat) ∧
      (∀ i ∈ [Instr.ret, .reti], s.implements i) := by decide

theorem witness_ReturnComesBackFromCall :
    let s := setup [sp 0x0101, code 0x1FFFE []]
    s.ram.wf = true ∧ 32 + s.dev.nIo < s.sp.toNat ∧ s.sp.toNat < s.dev.segSize ∧ s.nextpc % 2 = 0 ∧
      s.nextpc < s.dev.pcMod ∧ s.nextpc < 2 ^ 17 ∧
      (∀ i ∈ [Instr.rcall 0, .icall, .call 0, .ret], s.implements i) := by decide

theorem witness_BranchesComplete :
    branchTest (.breq 0x7F) (setup [sreg 0x02]) = some (true, 0x7F) ∧
      branchTest (.brbc 1 0x40) (setup [sreg 0x02]) = some (false, 0x40) ∧
      State.reset.implements (.breq 0x7F) := by decide

theorem witness_SkipsComplete :
    let s := setup [small, code 0x7FFE [0x0000]]
    let u := setup [small, code 0x7FFF []]
    skipTest (.cpse 5 6) (r 5 1 s) = some (false, r 5 1 s) ∧
      (skipTest (.cpse 5 5) s = some (true, s) ∧ s.nextpc + 1 < s.dev.flashBytes) ∧
      (skipTest (.sbis 0x1F 7) (byte 0x3F 0x80 u) = some (true, byte 0x3F 0x80 u) ∧
        (byte 0x3F 0x80 u).dev.flashBytes ≤ (byte 0x3F 0x80 u).nextpc + 1) ∧
      s.implements (.cpse 5 5) ∧ u.implements (.sbis 0x1F 7) := by decide

/-- At the last word of program memory, where nothing is loaded. -/
theorem witness_NopCompletes :
    let s := setup [small, code 0x7FFE []]
    s.pc + 1 < s.dev.flashBytes ∧ s.flash.read s.pc = 0x00 ∧ s.flash.read (s.pc + 1) = 0x00 ∧
      s.implements .nop := by decide

theorem witness_InterruptEntry :
    let s := setup [sp 0x0001]
    let u := setup [sp 0x1100]
    let v := setup [sp 0x0000]
    (s.sp.toNat < s.dev.segSize ∧ (s.sp - 1).toNat < s.dev.segSize) ∧ u.dev.segSize ≤ u.sp.toNat ∧
      (v.sp.toNat < v.dev.segSize ∧ v.dev.segSize ≤ (v.sp - 1).toNat) ∧
      (running.flags.i = true ∧ s.flags.i = false) := by decide

theorem witness_InterruptReturnComesBack :
    running.Inv ∧ running.implements .reti ∧ running.flags.i = true ∧ running.pc < 2 ^ 17 ∧
      32 + running.dev.nIo < running.sp.toNat ∧ running.sp.toNat < running.dev.segSize := ⟨running_inv, by decide⟩

/-- A store with a pointer update, whose address is its own pointer's low register. -/
theorem witness_RegisterFrame :
    let s := setup [ptr .x 0x001A]
    (nextOf (exec (.stXp 5) s)).isSome = true ∧ (0 : Fin 32) ∉ regsWritten (.stXp 5) ∧ 0 ∉ storesTo (.stXp 5) s := by
  decide

theorem witness_FlagFrame :
    let s := setup [sreg 0xFF]
    (nextOf (exec (.adiw 0 1) s)).isSome = true ∧ (5 : IMM3) ∉ flagsWritten (.adiw 0 1) ∧
      32 + s.dev.sregIo ∉ storesTo (.adiw 0 1) s := by decide

/-- A push beside SPL, read at a byte of RAM and at SREG. -/
theorem witness_MemoryFrame :
    let s := setup [sp 0x10FF]
    (nextOf (exec (.push 5) s)).isSome = true ∧ 0x10FE ∉ storesTo (.push 5) s ∧
      (0x10FE = 32 + s.dev.sregIo → flagsWritten (.push 5) = []) ∧
      (0x10FE = 32 + s.dev.splIo ∨ 0x10FE = 32 + s.dev.sphIo → movesSp (.push 5) = false) ∧
      (0x5F ∉ storesTo (.push 5) s ∧ 0x5F = 32 + s.dev.sregIo ∧ flagsWritten (.push 5) = []) ∧
      (0x5D = 32 + s.dev.splIo ∧ movesSp (.out 0x3E 5) = false ∧ 0x5D ∉ storesTo (.out 0x3E 5) s) := by decide

theorem witness_SpecialRegisterFrame :
    let s := setup [sp 0x10FF]
    (nextOf (exec (.out 0x3E 5) s)).isSome = true ∧ isControl (.out 0x3E 5) = false ∧ movesSp (.out 0x3E 5) = false ∧
      32 + s.dev.splIo ∉ storesTo (.out 0x3E 5) s ∧ 32 + s.dev.sphIo ∉ storesTo (.out 0x3D 5) s ∧
      32 + s.dev.rampzIo ∉ storesTo (.out 0x3E 5) s := by decide

theorem witness_SignIsNegativeXorOverflow :
    (nextOf (exec (.inc 5) (setup [r 5 0x7F]))).isSome = true ∧ (2 : IMM3) ∈ flagsWritten (.inc 5) ∧
      (3 : IMM3) ∈ flagsWritten (.inc 5) ∧ (nextOf (exec (.bset 2) State.reset)).isSome = true ∧ (2 : IMM3) ≠ 4 := by
  decide

theorem witness_CompareChainComparesWords :
    ((nextOf (exec (.cp 0 2) (setup [r 1 0x80, r 2 0x01]))).bind fun t => nextOf (exec (.cpc 1 3) t)).isSome = true := by
  decide

theorem witness_AddChainAddsWords :
    ((nextOf (exec (.add 30 30) (setup [ptr .z 0xFFFF]))).bind fun t => nextOf (exec (.adc 31 31) t)).isSome = true := by
  decide

end Sys2Proof.Tests
end

section
/-! PROOFS. 20_memory.md: one equation for each region of the data space, under a read and under a write, and for program
memory inside and outside its bounds. -/

namespace Sys2Proof.Machine

/-! ### A data read, region by region (20 R62) -/

theorem State.memRead_register (s : State) {a : Nat} (h : a < 32) : s.memRead a = .ok (s.reg ⟨a, h⟩, s) :=
  dif_pos h

theorem State.memRead_io {s : State} {a : Nat} (hlo : 32 ≤ a) (hhi : a < 32 + s.dev.nIo) :
    s.memRead a = .ok (s.ioRead (a - 32)) := by
  have hreg : ¬ a < 32 := by omega
  simp only [State.memRead, hreg, hhi, dite_false, if_true]

theorem State.memRead_ram {s : State} {a : Nat} (hlo : 32 + s.dev.nIo ≤ a) (hhi : a < s.dev.segSize) :
    s.memRead a = .ok (s.ram.read a, s) := by
  have hreg : ¬ a < 32 := by omega
  have hio : ¬ a < 32 + s.dev.nIo := by omega
  simp only [State.memRead, hreg, hio, hhi, dite_false, if_false, if_true]

theorem State.memRead_outside {s : State} {a : Nat} (h : s.dev.segSize ≤ a) :
    s.memRead a = .error (.outOfRange .dataRead a) :=
  State.memRead_error_iff.mpr ⟨h, rfl⟩

/-! ### A data write, region by region (20 R63) -/

theorem State.memWrite_register (s : State) {a : Nat} (v : Byte) (h : a < 32) :
    s.memWrite a v = .ok (s.setReg ⟨a, h⟩ v) :=
  dif_pos h

theorem State.memWrite_io {s : State} {a : Nat} (v : Byte) (hlo : 32 ≤ a) (hhi : a < 32 + s.dev.nIo) :
    s.memWrite a v = .ok (s.ioWrite (a - 32) v) := by
  have hreg : ¬ a < 32 := by omega
  simp only [State.memWrite, hreg, hhi, dite_false, if_true]

theorem State.memWrite_ram {s : State} {a : Nat} (v : Byte) (hlo : 32 + s.dev.nIo ≤ a) (hhi : a < s.dev.segSize) :
    s.memWrite a v = .ok { s with ram := s.ram.write a v } := by
  have hreg : ¬ a < 32 := by omega
  have hio : ¬ a < 32 + s.dev.nIo := by omega
  simp only [State.memWrite, hreg, hio, hhi, dite_false, if_false, if_true]

theorem State.memWrite_outside {s : State} {a : Nat} (v : Byte) (h : s.dev.segSize ≤ a) :
    s.memWrite a v = .error (.outOfRange .dataWrite a) :=
  State.memWrite_error_iff.mpr ⟨h, rfl⟩

/-! ### Program memory, inside and outside (20 R72, R73) -/

theorem State.flashByte_inside {s : State} {a : Nat} (h : a < s.dev.flashBytes) : s.flashByte a = .ok (s.flash.read a) :=
  if_pos h

theorem State.flashByte_outside {s : State} {a : Nat} (h : s.dev.flashBytes ≤ a) :
    s.flashByte a = .error (.outOfRange .flashRead a) :=
  if_neg (Nat.not_lt.mpr h)

theorem State.flash16_inside {s : State} {a : Nat} (h : a + 1 < s.dev.flashBytes) :
    s.flash16 a = .ok (s.flash.read (a + 1) ++ s.flash.read a) :=
  if_pos h

theorem State.flash16_outside {s : State} {a : Nat} (h : s.dev.flashBytes ≤ a + 1) :
    s.flash16 a = .error (.outOfRange .fetch a) :=
  if_neg (Nat.not_lt.mpr h)

/-- The number a word stands for, from its high and its low byte. -/
theorem toNat_wordOfBytes (hi lo : Byte) : (hi ++ lo : Word16).toNat = 256 * hi.toNat + lo.toNat := by
  rw [BitVec.toNat_append, ← Nat.shiftLeft_add_eq_or_of_lt lo.isLt, Nat.shiftLeft_eq]
  omega

/-! ### The statements -/

/-- Settles O19: the four regions of a data read. -/
theorem dataReadRoutesByAddress : Obligations.DataReadRoutesByAddress := fun s _ =>
  ⟨s.memRead_register, State.memRead_io, State.memRead_ram, State.memRead_outside⟩

/-- Settles O20: the four regions of a data write; a write of a register is the update of the register file. -/
theorem dataWriteRoutesByAddress : Obligations.DataWriteRoutesByAddress := fun s _ v =>
  ⟨s.memWrite_register v, State.memWrite_io v, State.memWrite_ram v, State.memWrite_outside v⟩

/-- Settles O24: the byte and the word of program memory, the word's low byte at the lower address. -/
theorem programMemoryReads : Obligations.ProgramMemoryReads := fun _ _ =>
  ⟨State.flashByte_inside, State.flashByte_outside,
    fun h => ⟨_, State.flash16_inside h, toNat_wordOfBytes _ _⟩, State.flash16_outside⟩

end Sys2Proof.Machine
end

section
/-! PROOFS. 30_encoding.md: the opcode table is disjoint, so a word that fits a mnemonic's row decodes as that mnemonic;
each format's word shows its opcode bits under its row's mask and gives its operands back to the field extraction. -/

namespace Sys2Proof

open Sys2Proof.Machine Sys2Proof.Laws

/-! ### The opcode table (30 R140, R150) -/

/-- A word that fits two rows agrees with both patterns on the bits that both masks fix. -/
theorem and_mask_agree {w p₁ m₁ p₂ m₂ : Word16} (h₁ : w &&& m₁ = p₁) (h₂ : w &&& m₂ = p₂) :
    p₁ &&& m₂ = p₂ &&& m₁ := by
  rw [← h₁, ← h₂, BitVec.and_assoc, BitVec.and_comm m₁, BitVec.and_assoc]

/-- Two rows differ on a bit that both their masks fix. -/
abbrev OpcodeRow.Disagree (r₁ r₂ : OpcodeRow) : Prop := r₁.pattern &&& r₂.mask ≠ r₂.pattern &&& r₁.mask

set_option maxRecDepth 4000 in
theorem opcodeRows_pairwise_disagree : opcodeRows.Pairwise OpcodeRow.Disagree := by decide

theorem OpcodeRow.fits_iff {row : OpcodeRow} {w : Word16} : row.fits w = true ↔ w &&& row.mask = row.pattern :=
  beq_iff_eq

/-- A word fits at most one row (30 R140). -/
theorem OpcodeRow.eq_of_fits {w : Word16} {r₁ r₂ : OpcodeRow} (hr₁ : r₁ ∈ opcodeRows) (hr₂ : r₂ ∈ opcodeRows)
    (h₁ : r₁.fits w = true) (h₂ : r₂.fits w = true) : r₁ = r₂ := by
  have hsymm : Std.Symm OpcodeRow.Disagree := ⟨fun _ _ => Ne.symm⟩
  by_contra hne
  have hdis : r₁.Disagree r₂ := opcodeRows_pairwise_disagree.forall hr₁ hr₂ hne
  exact hdis (and_mask_agree (OpcodeRow.fits_iff.mp h₁) (OpcodeRow.fits_iff.mp h₂))

/-- What the search of the table finds is a row that the word fits. -/
theorem mem_and_fits_of_find? {w : Word16} {row : OpcodeRow} (h : opcodeRows.find? (·.fits w) = some row) :
    row ∈ opcodeRows ∧ row.fits w = true :=
  ⟨List.mem_of_find?_eq_some h, List.find?_some (p := fun r : OpcodeRow => r.fits w) h⟩

/-- What `decodeFirst` answers is the mnemonic of a row that the word fits. -/
theorem exists_fits_of_decodeFirst {w : Word16} {m : Mnemonic} (h : decodeFirst w = some m) :
    ∃ row ∈ opcodeRows, row.fits w = true ∧ row.mnemonic = m := by
  obtain ⟨row, hfind, hm⟩ := Option.map_eq_some_iff.mp h
  obtain ⟨hmem, hfits⟩ := mem_and_fits_of_find? hfind
  exact ⟨row, hmem, hfits, hm⟩

/-- The row a word fits is the one `decodeFirst` answers (30 R140). -/
theorem decodeFirst_of_fits {w : Word16} {row : OpcodeRow} (hrow : row ∈ opcodeRows) (h : row.fits w = true) :
    decodeFirst w = some row.mnemonic := by
  have hsome : (opcodeRows.find? (·.fits w)).isSome = true := List.find?_isSome.mpr ⟨row, hrow, h⟩
  obtain ⟨found, hfind⟩ := Option.isSome_iff_exists.mp hsome
  obtain ⟨hmem, hfits⟩ := mem_and_fits_of_find? hfind
  rw [decodeFirst, hfind, OpcodeRow.eq_of_fits hmem hrow hfits h, Option.map_some]

/-- A word with the opcode bits of a row decodes as the row's mnemonic. -/
theorem decodeFirst_of_and_mask {m : Mnemonic} {w p mask : Word16} (hrow : ⟨m, p, mask⟩ ∈ opcodeRows)
    (hw : w &&& mask = p) : decodeFirst w = some m :=
  decodeFirst_of_fits hrow (OpcodeRow.fits_iff.mpr hw)

/-! ### The rows of two words (30 R100, R101) -/

/-- JMP, CALL, LDS and STS. -/
abbrev Mnemonic.HasSecondWord (m : Mnemonic) : Prop := m = .jmp ∨ m = .call ∨ m = .lds ∨ m = .sts

/-- Each of the four rows fixes every bit that one of the two tests of 30 R101 looks at, and passes that test. -/
theorem opcodeRows_long_refine : ∀ row ∈ opcodeRows, row.mnemonic.HasSecondWord →
    (row.mask &&& 0xFE0C = 0xFE0C ∧ row.pattern &&& 0xFE0C = 0x940C) ∨
    (row.mask &&& 0xFC0F = 0xFC0F ∧ row.pattern &&& 0xFC0F = 0x9000) := by decide

/-- Every other row fixes a bit on which it fails the first test, and one on which it fails the second. -/
theorem opcodeRows_short_disagree : ∀ row ∈ opcodeRows, ¬ row.mnemonic.HasSecondWord →
    row.pattern &&& 0xFE0C ≠ 0x940C &&& row.mask ∧ row.pattern &&& 0xFC0F ≠ 0x9000 &&& row.mask := by decide

theorem is4_iff {w : Word16} : is4 w = true ↔ w &&& 0xFE0C = 0x940C ∨ w &&& 0xFC0F = 0x9000 := by
  simp only [is4, Bool.or_eq_true, beq_iff_eq]

/-- A word that fits a row passes every test whose bits the row fixes as the test wants them. -/
theorem and_test_of_fits {w p m test value : Word16} (h : w &&& m = p) (hm : m &&& test = test)
    (hp : p &&& test = value) : w &&& test = value := by
  rw [← hp, ← h, BitVec.and_assoc, hm]

/-- Among decodable words the test of 30 R101 finds exactly the four mnemonics of 30 R100. -/
theorem is4_iff_of_decodeFirst {w : Word16} {m : Mnemonic} (h : decodeFirst w = some m) :
    is4 w = true ↔ m.HasSecondWord := by
  obtain ⟨row, hrow, hfits, rfl⟩ := exists_fits_of_decodeFirst h
  have hw := OpcodeRow.fits_iff.mp hfits
  rw [is4_iff]
  refine ⟨fun htest => ?_, fun hlong => ?_⟩
  · by_contra hshort
    obtain ⟨hjump, hdirect⟩ := opcodeRows_short_disagree row hrow hshort
    rcases htest with htest | htest
    · exact hjump (and_mask_agree hw htest)
    · exact hdirect (and_mask_agree hw htest)
  · exact (opcodeRows_long_refine row hrow hlong).imp (fun ⟨hm, hp⟩ => and_test_of_fits hw hm hp)
      fun ⟨hm, hp⟩ => and_test_of_fits hw hm hp

/-- Settles O9: a decodable first word passes the test of 30 R101 exactly for the four mnemonics. -/
theorem fourByteInstructionsAreFour : Obligations.FourByteInstructionsAreFour := fun _ _ h =>
  if_congr (is4_iff_of_decodeFirst h) rfl rfl

/-! ### Each format's word under the mask of its rows (30 R121 to R137)

The mask is ones on the opcode bits and zeros on the operands, so it leaves the word whose operands are all zero. Each
proof lays the word, the mask and the result out part by part. -/

theorem encRdRr_and_mask (o : BitVec 6) (d r : BitVec 5) : encRdRr o d r &&& 0xFC00 = encRdRr o 0 0 := by
  change (o ++ r.extractLsb' 4 1 ++ d ++ r.extractLsb' 0 4)
      &&& (BitVec.allOnes 6 ++ 0#1 ++ 0#5 ++ 0#4)
    = o ++ 0#1 ++ 0#5 ++ 0#4
  simp only [BitVec.and_append, BitVec.and_zero, BitVec.and_allOnes]

theorem encRdhK8_and_mask (o : BitVec 4) (d : BitVec 4) (k : BitVec 8) :
    encRdhK8 o d k &&& 0xF000 = encRdhK8 o 0 0 := by
  change (o ++ k.extractLsb' 4 4 ++ d ++ k.extractLsb' 0 4)
      &&& (BitVec.allOnes 4 ++ 0#4 ++ 0#4 ++ 0#4)
    = o ++ 0#4 ++ 0#4 ++ 0#4
  simp only [BitVec.and_append, BitVec.and_zero, BitVec.and_allOnes]

theorem encRdlK6_and_mask (o : BitVec 1) (d : BitVec 2) (k : BitVec 6) :
    encRdlK6 o d k &&& 0xFF00 = encRdlK6 o 0 0 := by
  change (0b1001011#7 ++ o ++ k.extractLsb' 4 2 ++ d ++ k.extractLsb' 0 4)
      &&& (BitVec.allOnes 7 ++ BitVec.allOnes 1 ++ 0#2 ++ 0#2 ++ 0#4)
    = 0b1001011#7 ++ o ++ 0#2 ++ 0#2 ++ 0#4
  simp only [BitVec.and_append, BitVec.and_zero, BitVec.and_allOnes]

theorem encRd_and_mask (d : BitVec 5) (o : BitVec 4) : encRd d o &&& 0xFE0F = encRd 0 o := by
  change (0b1001010#7 ++ d ++ o)
      &&& (BitVec.allOnes 7 ++ 0#5 ++ BitVec.allOnes 4)
    = 0b1001010#7 ++ 0#5 ++ o
  simp only [BitVec.and_append, BitVec.and_zero, BitVec.and_allOnes]

theorem encRdP_and_mask (o : BitVec 1) (d : BitVec 5) (m : BitVec 4) : encRdP o d m &&& 0xFE0F = encRdP o 0 m := by
  change (0b100100#6 ++ o ++ d ++ m)
      &&& (BitVec.allOnes 6 ++ BitVec.allOnes 1 ++ 0#5 ++ BitVec.allOnes 4)
    = 0b100100#6 ++ o ++ 0#5 ++ m
  simp only [BitVec.and_append, BitVec.and_zero, BitVec.and_allOnes]

theorem encRdhRrh_and_mask (o : BitVec 8) (d r : BitVec 4) : encRdhRrh o d r &&& 0xFF00 = encRdhRrh o 0 0 := by
  change (o ++ d ++ r)
      &&& (BitVec.allOnes 8 ++ 0#4 ++ 0#4)
    = o ++ 0#4 ++ 0#4
  simp only [BitVec.and_append, BitVec.and_zero, BitVec.and_allOnes]

theorem encRdmRrm_and_mask (u v : BitVec 1) (d r : BitVec 3) : encRdmRrm u v d r &&& 0xFF88 = encRdmRrm u v 0 0 := by
  change (0b00000011#8 ++ u ++ d ++ v ++ r)
      &&& (BitVec.allOnes 8 ++ BitVec.allOnes 1 ++ 0#3 ++ BitVec.allOnes 1 ++ 0#3)
    = 0b00000011#8 ++ u ++ 0#3 ++ v ++ 0#3
  simp only [BitVec.and_append, BitVec.and_zero, BitVec.and_allOnes]

theorem encS3_and_mask (o : BitVec 1) (b : BitVec 3) : encS3 o b &&& 0xFF8F = encS3 o 0 := by
  change (0b10010100#8 ++ o ++ b ++ 0b1000#4)
      &&& (BitVec.allOnes 8 ++ BitVec.allOnes 1 ++ 0#3 ++ BitVec.allOnes 4)
    = 0b10010100#8 ++ o ++ 0#3 ++ 0b1000#4
  simp only [BitVec.and_append, BitVec.and_zero, BitVec.and_allOnes]

theorem encRdB3_and_mask (o : BitVec 2) (d : BitVec 5) (b : BitVec 3) : encRdB3 o d b &&& 0xFE08 = encRdB3 o 0 0 := by
  change (0b11111#5 ++ o ++ d ++ 0b0#1 ++ b)
      &&& (BitVec.allOnes 5 ++ BitVec.allOnes 2 ++ 0#5 ++ BitVec.allOnes 1 ++ 0#3)
    = 0b11111#5 ++ o ++ 0#5 ++ 0b0#1 ++ 0#3
  simp only [BitVec.and_append, BitVec.and_zero, BitVec.and_allOnes]

theorem encA5B3_and_mask (o : BitVec 2) (a : BitVec 5) (b : BitVec 3) : encA5B3 o a b &&& 0xFF00 = encA5B3 o 0 0 := by
  change (0b100110#6 ++ o ++ a ++ b)
      &&& (BitVec.allOnes 6 ++ BitVec.allOnes 2 ++ 0#5 ++ 0#3)
    = 0b100110#6 ++ o ++ 0#5 ++ 0#3
  simp only [BitVec.and_append, BitVec.and_zero, BitVec.and_allOnes]

theorem encRdA6_and_mask (o : BitVec 1) (d : BitVec 5) (a : BitVec 6) : encRdA6 o d a &&& 0xF800 = encRdA6 o 0 0 := by
  change (0b1011#4 ++ o ++ a.extractLsb' 4 2 ++ d ++ a.extractLsb' 0 4)
      &&& (BitVec.allOnes 4 ++ BitVec.allOnes 1 ++ 0#2 ++ 0#5 ++ 0#4)
    = 0b1011#4 ++ o ++ 0#2 ++ 0#5 ++ 0#4
  simp only [BitVec.and_append, BitVec.and_zero, BitVec.and_allOnes]

theorem encRdPq_and_mask (o p : BitVec 1) (d : BitVec 5) (q : BitVec 6) :
    encRdPq o p d q &&& 0xD208 = encRdPq o p 0 0 := by
  change (0b10#2 ++ q.extractLsb' 5 1 ++ 0b0#1 ++ q.extractLsb' 3 2 ++ o ++ d ++ p ++ q.extractLsb' 0 3)
      &&& (BitVec.allOnes 2 ++ 0#1 ++ BitVec.allOnes 1 ++ 0#2 ++ BitVec.allOnes 1 ++ 0#5 ++ BitVec.allOnes 1 ++ 0#3)
    = 0b10#2 ++ 0#1 ++ 0b0#1 ++ 0#2 ++ o ++ 0#5 ++ p ++ 0#3
  simp only [BitVec.and_append, BitVec.and_zero, BitVec.and_allOnes]

theorem encK12_and_mask (o : BitVec 1) (k : BitVec 12) : encK12 o k &&& 0xF000 = encK12 o 0 := by
  change (0b110#3 ++ o ++ k)
      &&& (BitVec.allOnes 3 ++ BitVec.allOnes 1 ++ 0#12)
    = 0b110#3 ++ o ++ 0#12
  simp only [BitVec.and_append, BitVec.and_zero, BitVec.and_allOnes]

theorem encK22_and_mask (o : BitVec 1) (k : BitVec 22) : encK22 o k &&& 0xFE0E = encK22 o 0 := by
  change (0b1001010#7 ++ k.extractLsb' 17 5 ++ 0b11#2 ++ o ++ k.extractLsb' 16 1)
      &&& (BitVec.allOnes 7 ++ 0#5 ++ BitVec.allOnes 2 ++ BitVec.allOnes 1 ++ 0#1)
    = 0b1001010#7 ++ 0#5 ++ 0b11#2 ++ o ++ 0#1
  simp only [BitVec.and_append, BitVec.and_zero, BitVec.and_allOnes]

theorem encS3K7_and_mask (o : BitVec 1) (k : BitVec 7) (b : BitVec 3) : encS3K7 o k b &&& 0xFC00 = encS3K7 o 0 0 := by
  change (0b11110#5 ++ o ++ k ++ b)
      &&& (BitVec.allOnes 5 ++ BitVec.allOnes 1 ++ 0#7 ++ 0#3)
    = 0b11110#5 ++ o ++ 0#7 ++ 0#3
  simp only [BitVec.and_append, BitVec.and_zero, BitVec.and_allOnes]

/-! ### Each format's fields, read back from its word (30 R121 to R137)

The rule about an extract of an append matches only while the word's width is a written-out sum of its parts' widths:
hence `-Nat.reduceAdd`. -/

@[simp] theorem fields_encRdRr (o : BitVec 6) (d r : BitVec 5) :
    fieldD5 (encRdRr o d r) = d ∧ fieldR5 (encRdRr o d r) = r := by
  simp [-Nat.reduceAdd, fieldD5, fieldR5, encRdRr, BitVec.extractLsb'_append_eq_ite]

@[simp] theorem fields_encRdhK8 (o : BitVec 4) (d : BitVec 4) (k : BitVec 8) :
    fieldD4 (encRdhK8 o d k) = d ∧ fieldK8 (encRdhK8 o d k) = k := by
  simp [-Nat.reduceAdd, fieldD4, fieldK8, encRdhK8, BitVec.extractLsb'_append_eq_ite]

@[simp] theorem fields_encRdlK6 (o : BitVec 1) (d : BitVec 2) (k : BitVec 6) :
    fieldD2 (encRdlK6 o d k) = d ∧ fieldK6 (encRdlK6 o d k) = k := by
  simp [-Nat.reduceAdd, fieldD2, fieldK6, encRdlK6, BitVec.extractLsb'_append_eq_ite]

@[simp] theorem fieldD5_encRd (d : BitVec 5) (o : BitVec 4) : fieldD5 (encRd d o) = d := by
  simp [-Nat.reduceAdd, fieldD5, encRd, BitVec.extractLsb'_append_eq_ite]

@[simp] theorem fieldD5_encRdP (o : BitVec 1) (d : BitVec 5) (m : BitVec 4) : fieldD5 (encRdP o d m) = d := by
  simp [-Nat.reduceAdd, fieldD5, encRdP, BitVec.extractLsb'_append_eq_ite]

@[simp] theorem fields_encRdhRrh (o : BitVec 8) (d r : BitVec 4) :
    fieldD4 (encRdhRrh o d r) = d ∧ fieldR4 (encRdhRrh o d r) = r := by
  simp [-Nat.reduceAdd, fieldD4, fieldR4, encRdhRrh, BitVec.extractLsb'_append_eq_ite]

@[simp] theorem fields_encRdmRrm (u v : BitVec 1) (d r : BitVec 3) :
    fieldD3 (encRdmRrm u v d r) = d ∧ fieldB3 (encRdmRrm u v d r) = r := by
  simp [-Nat.reduceAdd, fieldD3, fieldB3, encRdmRrm, BitVec.extractLsb'_append_eq_ite]

@[simp] theorem fieldD3_encS3 (o : BitVec 1) (b : BitVec 3) : fieldD3 (encS3 o b) = b := by
  simp [-Nat.reduceAdd, fieldD3, encS3, BitVec.extractLsb'_append_eq_ite]

@[simp] theorem fields_encRdB3 (o : BitVec 2) (d : BitVec 5) (b : BitVec 3) :
    fieldD5 (encRdB3 o d b) = d ∧ fieldB3 (encRdB3 o d b) = b := by
  simp [-Nat.reduceAdd, fieldD5, fieldB3, encRdB3, BitVec.extractLsb'_append_eq_ite]

@[simp] theorem fields_encA5B3 (o : BitVec 2) (a : BitVec 5) (b : BitVec 3) :
    fieldA5 (encA5B3 o a b) = a ∧ fieldB3 (encA5B3 o a b) = b := by
  simp [-Nat.reduceAdd, fieldA5, fieldB3, encA5B3, BitVec.extractLsb'_append_eq_ite]

@[simp] theorem fields_encRdA6 (o : BitVec 1) (d : BitVec 5) (a : BitVec 6) :
    fieldD5 (encRdA6 o d a) = d ∧ fieldA6 (encRdA6 o d a) = a := by
  simp [-Nat.reduceAdd, fieldD5, fieldA6, encRdA6, BitVec.extractLsb'_append_eq_ite]

@[simp] theorem fieldD5_encRdPq (o p : BitVec 1) (d : BitVec 5) (q : BitVec 6) : fieldD5 (encRdPq o p d q) = d := by
  simp [-Nat.reduceAdd, fieldD5, encRdPq, BitVec.extractLsb'_append_eq_ite]

@[simp] theorem fieldQ6_encRdPq (o p : BitVec 1) (d : BitVec 5) (q : BitVec 6) : fieldQ6 (encRdPq o p d q) = q := by
  calc fieldQ6 (encRdPq o p d q)
      = q.extractLsb' 5 1 ++ q.extractLsb' 3 2 ++ q.extractLsb' 0 3 := by
        simp [-Nat.reduceAdd, fieldQ6, encRdPq, BitVec.extractLsb'_append_eq_ite]
    _ = q.extractLsb' 3 3 ++ q.extractLsb' 0 3 :=
        congrArg (· ++ q.extractLsb' 0 3) (BitVec.extractLsb'_append_extractLsb'_eq_extractLsb' rfl)
    _ = q := BitVec.extractLsb'_append_extractLsb'

@[simp] theorem fieldK12_encK12 (o : BitVec 1) (k : BitVec 12) : fieldK12 (encK12 o k) = k := by
  simp [-Nat.reduceAdd, fieldK12, encK12, BitVec.extractLsb'_append_eq_ite]

@[simp] theorem fieldK22_encK22 (o : BitVec 1) (k : BitVec 22) : fieldK22 (encK22 o k) (k.extractLsb' 0 16) = k := by
  calc fieldK22 (encK22 o k) (k.extractLsb' 0 16)
      = k.extractLsb' 17 5 ++ k.extractLsb' 16 1 ++ k.extractLsb' 0 16 := by
        simp [-Nat.reduceAdd, fieldK22, encK22, BitVec.extractLsb'_append_eq_ite]
    _ = k.extractLsb' 16 6 ++ k.extractLsb' 0 16 :=
        congrArg (· ++ k.extractLsb' 0 16) (BitVec.extractLsb'_append_extractLsb'_eq_extractLsb' rfl)
    _ = k := BitVec.extractLsb'_append_extractLsb'

@[simp] theorem fields_encS3K7 (o : BitVec 1) (k : BitVec 7) (b : BitVec 3) :
    fieldK7 (encS3K7 o k b) = k ∧ fieldB3 (encS3K7 o k b) = b := by
  simp [-Nat.reduceAdd, fieldK7, fieldB3, encS3K7, BitVec.extractLsb'_append_eq_ite]

/-! ### The round trip (30 R180) -/

/-- A word that announces one word is read alone. -/
theorem decode_wordBytes_one {w : Word16} {m : Mnemonic} (hm : decodeFirst w = some m) (h4 : is4 w = false)
    (rest : List Byte) : decode (wordBytes w ++ rest) = .ok (build m w 0, rest) := by
  simp [wordBytes, decode, word_of_bytes, hm, h4]

/-- A word that announces two words is read with its successor. -/
theorem decode_wordBytes_two {w₀ w₁ : Word16} {m : Mnemonic} (hm : decodeFirst w₀ = some m) (h4 : is4 w₀ = true)
    (rest : List Byte) : decode (wordBytes w₀ ++ (wordBytes w₁ ++ rest)) = .ok (build m w₀ w₁, rest) := by
  simp [wordBytes, decode, word_of_bytes, hm, h4]

/-- An instruction of one word: its opcode bits are those of its row, and its fields are its operands. -/
theorem decode_encodeBytes_one {i : Instr} {w p mask : Word16} (he : encode i = [w]) (hw : w &&& mask = p)
    (h4 : is4 w = false) (rest : List Byte)
    (hrow : ⟨i.mnemonic, p, mask⟩ ∈ opcodeRows := by simp only [Instr.mnemonic]; decide)
    (hbuild : build i.mnemonic w 0 = i := by simp [build, Instr.mnemonic]) :
    decode (encodeBytes i ++ rest) = .ok (i, rest) := by
  have hbytes : encodeBytes i = wordBytes w := by simp [encodeBytes, he]
  rw [hbytes, decode_wordBytes_one (decodeFirst_of_and_mask hrow hw) h4, hbuild]

/-- An instruction of two words: as that of one, with the second word among its operands. -/
theorem decode_encodeBytes_two {i : Instr} {w₀ w₁ p mask : Word16} (he : encode i = [w₀, w₁])
    (hw : w₀ &&& mask = p) (h4 : is4 w₀ = true) (rest : List Byte)
    (hrow : ⟨i.mnemonic, p, mask⟩ ∈ opcodeRows := by simp only [Instr.mnemonic]; decide)
    (hbuild : build i.mnemonic w₀ w₁ = i := by simp [build, Instr.mnemonic]) :
    decode (encodeBytes i ++ rest) = .ok (i, rest) := by
  have hbytes : encodeBytes i = wordBytes w₀ ++ wordBytes w₁ := by simp [encodeBytes, he]
  rw [hbytes, List.append_assoc, decode_wordBytes_two (decodeFirst_of_and_mask hrow hw) h4, hbuild]

/-- The round trip of the decoded rows, format by format (30 R121 to R138). -/
theorem decode_encodeBytes_of_row {i : Instr} (hi : i.isAlias = false) (rest : List Byte) :
    decode (encodeBytes i ++ rest) = .ok (i, rest) := by
  cases i with
  | add d r | adc d r | sub d r | sbc d r | and d r | or d r | eor d r | cp d r | cpc d r | mul d r | mov d r
  | cpse d r =>
    exact decode_encodeBytes_one rfl (encRdRr_and_mask _ d r) (is4_encRdRr _ d r rfl) rest
  | subi d k | sbci d k | andi d k | ori d k | cpi d k | ldi d k =>
    exact decode_encodeBytes_one rfl (encRdhK8_and_mask _ d k) (is4_encRdhK8 _ d k rfl) rest
  | adiw d k | sbiw d k =>
    exact decode_encodeBytes_one rfl (encRdlK6_and_mask _ d k) (is4_encRdlK6 _ d k) rest
  | com d | neg d | inc d | dec d | lsr d | asr d | ror d | swap d =>
    exact decode_encodeBytes_one rfl (encRd_and_mask d _) (is4_encRd _ d (by decide)) rest
  | ldX d | ldXp d | ldMx d | ldYp d | ldMy d | ldZp d | ldMz d | lpmZ d | lpmZp d | elpmZ d | elpmZp d | pop d
  | stX d | stXp d | stMx d | stYp d | stMy d | stZp d | stMz d | push d =>
    exact decode_encodeBytes_one rfl (encRdP_and_mask _ d _) (is4_encRdP _ _ d (by decide)) rest
  | lds d k | sts k d =>
    exact decode_encodeBytes_two rfl (encRdP_and_mask _ d _) (is4_encRdP_direct _ d) rest
  | muls d r | movw d r =>
    exact decode_encodeBytes_one rfl (encRdhRrh_and_mask _ d r) (is4_encRdhRrh _ d r rfl) rest
  | mulsu d r | fmul d r | fmuls d r | fmulsu d r =>
    exact decode_encodeBytes_one rfl (encRdmRrm_and_mask _ _ d r) (is4_encRdmRrm _ _ d r) rest
  | bset b | bclr b =>
    exact decode_encodeBytes_one rfl (encS3_and_mask _ b) (is4_encS3 _ b) rest
  | bst d b | bld d b | sbrc d b | sbrs d b =>
    exact decode_encodeBytes_one rfl (encRdB3_and_mask _ d b) (is4_encRdB3 _ d b) rest
  | sbi a b | cbi a b | sbic a b | sbis a b =>
    exact decode_encodeBytes_one rfl (encA5B3_and_mask _ a b) (is4_encA5B3 _ a b) rest
  | in_ d a | out a d =>
    exact decode_encodeBytes_one rfl (encRdA6_and_mask _ d a) (is4_encRdA6 _ d a) rest
  | lddY d q | lddZ d q | stdY q d | stdZ q d =>
    exact decode_encodeBytes_one rfl (encRdPq_and_mask _ _ d q) (is4_encRdPq _ _ d q) rest
  | rjmp k | rcall k =>
    exact decode_encodeBytes_one rfl (encK12_and_mask _ k) (is4_encK12 _ k) rest
  | jmp k | call k =>
    exact decode_encodeBytes_two rfl (encK22_and_mask _ k) (is4_encK22 _ k) rest
  | brbs b k | brbc b k =>
    exact decode_encodeBytes_one rfl (encS3K7_and_mask _ k b) (is4_encS3K7 _ k b) rest
  | lpm | elpm | spm | ijmp | eijmp | icall | eicall | ret | reti | nop | sleep | wdr | break_ =>
    exact decode_encodeBytes_one rfl BitVec.and_allOnes rfl rest
  | _ => cases hi

/-- An expansion is a decoded row. -/
theorem isAlias_expansion (i : Instr) : (expansion i).isAlias = false := by cases i <;> rfl

/-- An instruction has the words of its expansion (30 R172). -/
theorem encode_expansion (i : Instr) : encode (expansion i) = encode i := by cases i <;> rfl

/-- A decoded row stands for itself (30 R172). -/
theorem expansion_of_wellFormed {i : Instr} (h : i.wellFormed = true) : expansion i = i := by
  cases i <;> cases h <;> rfl

/-- Every instruction, an assembler spelling too, decodes as its expansion (30 R180, R172). -/
theorem decode_encodeBytes (i : Instr) (rest : List Byte) :
    decode (encodeBytes i ++ rest) = .ok (expansion i, rest) := by
  have hbytes : encodeBytes (expansion i) = encodeBytes i := by rw [encodeBytes, encode_expansion, encodeBytes]
  rw [← hbytes]
  exact decode_encodeBytes_of_row (isAlias_expansion i) rest

/-- Settles O5: the round trip of the expansion, which for a decoded row is the instruction itself. -/
theorem encodedInstructionDecodes : Obligations.EncodedInstructionDecodes := fun i rest =>
  ⟨decode_encodeBytes i rest, fun h => by rw [decode_encodeBytes, expansion_of_wellFormed h]⟩

end Sys2Proof
end

section
/-! PROOFS. 40_arithmetic_logic.md: the 8-bit addition and subtraction. One fact about the carry out of a digit serves both
carries and both borrows, for a difference is a sum read backwards: where `r` is `a - b - c`, `a` is `r + b + c`. -/

namespace Sys2Proof.Machine

/-! ### The bits of a byte as numbers (10 R28) -/

theorem getLsbD_seven (a : Byte) : a.getLsbD 7 = decide (128 ≤ a.toNat) :=
  BitVec.msb_eq_decide a

theorem getLsbD_three (a : Byte) : a.getLsbD 3 = decide (8 ≤ a.toNat % 16) := by
  have hdigit : a.toNat / 8 % 2 = 1 ↔ 8 ≤ a.toNat % 16 := by omega
  rw [← BitVec.testBit_toNat, Nat.testBit_eq_decide_div_mod_eq]
  exact decide_eq_decide.mpr hdigit

theorem beq_zero_eq_decide_toNat (r : Byte) : (r == 0) = decide (r.toNat = 0) := by
  rw [Bool.beq_eq_decide_eq]
  exact decide_eq_decide.mpr BitVec.toNat_inj.symm

/-! ### Sums modulo 256 (40 R201) -/

/-- The result of a sum of two digits below `2 * m` and a carry in: the exact sum, less `2 * m` where it carries. -/
theorem digitSum_cases {m x y c r : Nat} (hx : x < 2 * m) (hy : y < 2 * m) (hc : c ≤ 1)
    (hr : r = (x + y + c) % (2 * m)) :
    (2 * m ≤ x + y + c ∧ r + 2 * m = x + y + c) ∨ (x + y + c < 2 * m ∧ r = x + y + c) := by
  rcases Nat.lt_or_ge (x + y + c) (2 * m) with hlt | hge
  · exact .inr ⟨hlt, hr.trans (Nat.mod_eq_of_lt hlt)⟩
  · have hsub : (x + y + c) % (2 * m) = x + y + c - 2 * m := by
      rw [Nat.mod_eq_sub_mod hge, Nat.mod_eq_of_lt (by omega)]
    exact .inl ⟨hge, by omega⟩

/-- A digit sum carries exactly when two of these hold: the top bit of `x` is set, that of `y` is, that of the result is
not. -/
theorem digitCarry_eq_topBits {m x y c r : Nat} (hx : x < 2 * m) (hy : y < 2 * m) (hc : c ≤ 1)
    (hr : r = (x + y + c) % (2 * m)) :
    decide (2 * m ≤ x + y + c) = ((decide (m ≤ x) && decide (m ≤ y)) || (decide (m ≤ y) && !decide (m ≤ r)) ||
      (!decide (m ≤ r) && decide (m ≤ x))) := by
  rw [Bool.eq_iff_iff]
  simp only [Bool.or_eq_true, Bool.and_eq_true, Bool.not_eq_true', decide_eq_true_eq, decide_eq_false_iff_not]
  rcases digitSum_cases hx hy hc hr with ⟨hcarry, hres⟩ | ⟨hcarry, hres⟩ <;> omega

/-- `r` is the sum of two bytes and a carry in, modulo 256. -/
def IsByteSum (a b : Byte) (c : Bool) (r : Byte) : Prop := r.toNat = (a.toNat + b.toNat + c.toNat) % 256

section
variable {a b r : Byte} {c : Bool}

theorem IsByteSum.carry_eq_bits (h : IsByteSum a b c r) :
    decide (256 ≤ a.toNat + b.toNat + c.toNat) =
      ((a.getLsbD 7 && b.getLsbD 7) || (b.getLsbD 7 && !r.getLsbD 7) || (!r.getLsbD 7 && a.getLsbD 7)) := by
  simp only [getLsbD_seven]
  exact digitCarry_eq_topBits (m := 128) a.isLt b.isLt c.toNat_le h

/-- The low nibbles make a sum of their own. -/
theorem IsByteSum.halfCarry_eq_bits (h : IsByteSum a b c r) :
    decide (16 ≤ a.toNat % 16 + b.toNat % 16 + c.toNat) =
      ((a.getLsbD 3 && b.getLsbD 3) || (b.getLsbD 3 && !r.getLsbD 3) || (!r.getLsbD 3 && a.getLsbD 3)) := by
  have hnibble : r.toNat % 16 = (a.toNat % 16 + b.toNat % 16 + c.toNat) % 16 := by
    unfold IsByteSum at h
    omega
  simp only [getLsbD_three]
  exact digitCarry_eq_topBits (m := 8) (Nat.mod_lt _ (by decide)) (Nat.mod_lt _ (by decide)) c.toNat_le hnibble

/-- The signed sum leaves its range exactly when the operands have one sign and the result the other. -/
theorem IsByteSum.overflow_iff (h : IsByteSum a b c r) :
    ((a.getLsbD 7 && b.getLsbD 7 && !r.getLsbD 7) || (!a.getLsbD 7 && !b.getLsbD 7 && r.getLsbD 7)) = true ↔
      a.toInt + b.toInt + c.toNat < -128 ∨ 127 < a.toInt + b.toInt + c.toNat := by
  have hcases := digitSum_cases (m := 128) a.isLt b.isLt c.toNat_le h
  have hc := c.toNat_le
  simp only [getLsbD_seven, BitVec.toInt_eq_toNat_cond, Bool.or_eq_true, Bool.and_eq_true, Bool.not_eq_true',
    decide_eq_true_eq, decide_eq_false_iff_not]
  rcases hcases with ⟨hcarry, hres⟩ | ⟨hcarry, hres⟩ <;> omega

end

/-! ### `Add8` (40 R201) -/

theorem add8_isByteSum (a b : Byte) (c : Bool) (f : Flags) : IsByteSum a b c (add8 a b c f).1 :=
  BitVec.toNat_ofNat _ 8

/-- Settles O26: the bit forms of H, C and V are those of a sum modulo 256. -/
theorem additionPrimitive : Obligations.AdditionPrimitive := by
  intro a b c f r g
  have hsum : IsByteSum a b c r := add8_isByteSum a b c f
  have hz : g.z = decide ((a.toNat + b.toNat + c.toNat) % 256 = 0) := by
    rw [← hsum]
    exact beq_zero_eq_decide_toNat r
  exact ⟨hsum, rfl, rfl, rfl, hsum.overflow_iff, rfl, hz, rfl, hsum.halfCarry_eq_bits, hsum.carry_eq_bits, rfl, rfl⟩

/-! ### `Sub8` and `Sub8PZ` (40 R202, R203) -/

theorem sub8_toNat (a b : Byte) (c : Bool) (f : Flags) :
    ((sub8 a b c f).1.toNat : Int) = ((a.toNat : Int) - b.toNat - c.toNat) % 256 := by
  change (((BitVec.ofInt 8 ((a.toNat : Int) - b.toNat - c.toNat)).toNat : Nat) : Int) = _
  rw [BitVec.toNat_ofInt]
  omega

/-- The minuend is the sum of the difference, the subtrahend and the borrow. -/
theorem sub8_isByteSum (a b : Byte) (c : Bool) (f : Flags) : IsByteSum (sub8 a b c f).1 b c a := by
  have hdiff := sub8_toNat a b c f
  unfold IsByteSum
  omega

section
variable {a b r : Byte} {c : Bool}

/-- A difference borrows exactly when its sum, read backwards, carries. -/
theorem IsByteSum.borrow_eq_bits (h : IsByteSum r b c a) :
    decide (a.toNat < b.toNat + c.toNat) =
      ((!a.getLsbD 7 && b.getLsbD 7) || (b.getLsbD 7 && r.getLsbD 7) || (r.getLsbD 7 && !a.getLsbD 7)) := by
  have hcarry : a.toNat < b.toNat + c.toNat ↔ 256 ≤ r.toNat + b.toNat + c.toNat := by
    have hc := c.toNat_le
    unfold IsByteSum at h
    omega
  rw [decide_eq_decide.mpr hcarry, h.carry_eq_bits]
  ac_rfl

theorem IsByteSum.halfBorrow_eq_bits (h : IsByteSum r b c a) :
    decide (a.toNat % 16 < b.toNat % 16 + c.toNat) =
      ((!a.getLsbD 3 && b.getLsbD 3) || (b.getLsbD 3 && r.getLsbD 3) || (r.getLsbD 3 && !a.getLsbD 3)) := by
  have hcarry : a.toNat % 16 < b.toNat % 16 + c.toNat ↔ 16 ≤ r.toNat % 16 + b.toNat % 16 + c.toNat := by
    have hc := c.toNat_le
    unfold IsByteSum at h
    omega
  rw [decide_eq_decide.mpr hcarry, h.halfCarry_eq_bits]
  ac_rfl

/-- The signed difference leaves its range exactly when its sum, read backwards, does. -/
theorem IsByteSum.subOverflow_iff (h : IsByteSum r b c a) :
    ((a.getLsbD 7 && !b.getLsbD 7 && !r.getLsbD 7) || (!a.getLsbD 7 && b.getLsbD 7 && r.getLsbD 7)) = true ↔
      a.toInt - b.toInt - c.toNat < -128 ∨ 127 < a.toInt - b.toInt - c.toNat := by
  have hrange : (r.toInt + b.toInt + c.toNat < -128 ∨ 127 < r.toInt + b.toInt + c.toNat) ↔
      a.toInt - b.toInt - c.toNat < -128 ∨ 127 < a.toInt - b.toInt - c.toNat := by
    have hc := c.toNat_le
    simp only [IsByteSum, BitVec.toInt_eq_toNat_cond] at h ⊢
    omega
  rw [← hrange, ← h.overflow_iff, ← Bool.eq_iff_iff]
  ac_rfl

end

/-- Settles O27: the bit forms of H, C and V are those of the sum that gives the minuend back. -/
theorem subtractionPrimitives : Obligations.SubtractionPrimitives := by
  intro a b c f r g
  have hsum : IsByteSum r b c a := sub8_isByteSum a b c f
  have hz : (r == 0) = decide (r.toNat = 0) := beq_zero_eq_decide_toNat r
  have hpz : (sub8pz a b c f).2 = { g with z := decide (r.toNat = 0) && f.z } := by
    rw [← hz]
    rfl
  exact ⟨⟨sub8_toNat a b c f, rfl, rfl, rfl, hsum.subOverflow_iff, rfl, hz, rfl, hsum.halfBorrow_eq_bits,
    hsum.borrow_eq_bits, rfl, rfl⟩, rfl, hpz⟩

end Sys2Proof.Machine
end

section
/-! PROOFS. 41_shift_bit.md: the 8-bit shifts. A left shift is the addition of the value with itself, so the carries and
the overflow of `Add8` are read off its facts for sums. -/

namespace Sys2Proof.Machine

/-! ### `ShiftLeft8` (41 R260) -/

/-- Bits 6 to 0 moved up by one, with the injected bit below, are twice the byte and that bit. -/
theorem shiftLeft8_isByteSum (v : Byte) (inj : Bool) (f : Flags) : IsByteSum v v inj (shiftLeft8 v inj f).1 := by
  have hr : (shiftLeft8 v inj f).1 = (v.extractLsb' 0 7).concat inj := BitVec.append_ofBool ..
  have hc := inj.toNat_le
  rw [IsByteSum, hr, BitVec.toNat_concat, BitVec.extractLsb'_toNat, Nat.shiftRight_zero]
  omega

/-- The carry out of a bit added to itself is that bit. -/
theorem carryBits_self : ∀ x y : Bool, ((x && x) || (x && !y) || (!y && x)) = x := by decide

/-- A sum of two equal operands overflows exactly when their sign and that of the result differ. -/
theorem overflowBits_self : ∀ x y : Bool, ((x && x && !y) || (!x && !x && y)) = (y ^^ x) := by decide

/-- `Add8` of the value with itself carries bits 7 and 3 out and overflows where N and C differ. -/
theorem shiftLeft8_eq_add8 (v : Byte) (inj : Bool) (f : Flags) : shiftLeft8 v inj f = add8 v v inj f := by
  have hsum := add8_isByteSum v v inj f
  have hr : (add8 v v inj f).1 = (shiftLeft8 v inj f).1 :=
    BitVec.toNat_inj.mp (hsum.trans (shiftLeft8_isByteSum v inj f).symm)
  have hh : (add8 v v inj f).2.h = v.getLsbD 3 := hsum.halfCarry_eq_bits.trans (carryBits_self ..)
  have hc : (add8 v v inj f).2.c = v.msb := hsum.carry_eq_bits.trans (carryBits_self ..)
  simp only [add8] at hr hh hc
  simp only [add8, hr, hh, hc, overflowBits_self]
  rfl

/-! ### `ShiftRight8` (41 R261) -/

theorem shiftRight8_eq_cons (v : Byte) (inj : Bool) (f : Flags) :
    (shiftRight8 v inj f).1 = BitVec.cons inj (v.extractLsb' 1 7) :=
  BitVec.ofBool_append ..

theorem shiftRight8_toNat (v : Byte) (inj : Bool) (f : Flags) :
    (shiftRight8 v inj f).1.toNat = v.toNat / 2 + 128 * inj.toNat := by
  rw [shiftRight8_eq_cons, BitVec.toNat_cons', BitVec.extractLsb'_toNat, Nat.shiftLeft_eq]
  omega

/-- N is the injected bit. -/
theorem shiftRight8_n (v : Byte) (inj : Bool) (f : Flags) : (shiftRight8 v inj f).2.n = inj := by
  have hn : (shiftRight8 v inj f).2.n = (shiftRight8 v inj f).1.msb := rfl
  rw [hn, shiftRight8_eq_cons, BitVec.msb_cons]

/-- S is C, for V is N ^ C and S is N ^ V. -/
theorem shiftRight8_s (v : Byte) (inj : Bool) (f : Flags) : (shiftRight8 v inj f).2.s = (shiftRight8 v inj f).2.c :=
  Bool.bne_self_left ..

/-- Settles O28: the left shift is a byte added to itself, the right shift halves it below the injected bit. -/
theorem shiftPrimitives : Obligations.ShiftPrimitives := by
  intro v inj f
  have hleft : (shiftLeft8 v inj f).1.toNat = (2 * v.toNat + inj.toNat) % 256 := by
    rw [Nat.two_mul]
    exact shiftLeft8_isByteSum v inj f
  exact ⟨⟨hleft, rfl, rfl, rfl, beq_zero_eq_decide_toNat _, rfl, rfl, rfl, rfl⟩, shiftLeft8_eq_add8 v inj f,
    shiftRight8_toNat v inj f, rfl, rfl, shiftRight8_n v inj f, beq_zero_eq_decide_toNat _, rfl, rfl,
    shiftRight8_s v inj f, rfl, rfl, rfl⟩

end Sys2Proof.Machine
end

section
/-! PROOFS. 44_mcu_control.md: a step as its three parts, the fetch, the execution in the entered state and the retirement,
and NOP, the word of zeros, through each of them. -/

namespace Sys2Proof.Machine

/-! ### A step from its parts (10 R33) -/

/-- The fetch of a one-word instruction reads the word at `pc` alone. -/
theorem State.fetchInstr_oneWord {s : State} {w : Word16} {m : Mnemonic} (hword : s.flash16 s.pc = .ok w)
    (hm : decodeFirst w = some m) (h4 : is4 w = false) : s.fetchInstr = .ok (build m w 0, 2) := by
  simp [State.fetchInstr, hword, hm, h4]

/-- A step whose instruction completes ends in the retired state. -/
theorem step_of_exec_next {s t : State} {i : Instr} {size : Nat} (hfetch : s.fetchInstr = .ok (i, size))
    (hexec : exec i (s.enter size) = .next t) : step s = .next t.retire := by
  simp only [step, hfetch, hexec]

/-! ### NOP (44 R451) -/

/-- The word of zeros fits the row of NOP, which fixes every bit. -/
theorem decodeFirst_zero : decodeFirst 0x0000 = some .nop :=
  decodeFirst_of_and_mask (mask := 0xFFFF) (by decide) BitVec.and_allOnes

theorem decodeWords_zero (w1 : Word16) : decodeWords 0x0000 w1 = some (.nop, 2) := by
  rw [decodeWords, decodeFirst_zero]
  rfl

/-- Two zero bytes in program memory are fetched as NOP. -/
theorem State.fetchInstr_zero {s : State} (hin : s.pc + 1 < s.dev.flashBytes) (hlo : s.flash.read s.pc = 0x00)
    (hhi : s.flash.read (s.pc + 1) = 0x00) : s.fetchInstr = .ok (.nop, 2) := by
  have hword : s.flash16 s.pc = .ok 0x0000 := by
    rw [State.flash16_inside hin, hlo, hhi]
    rfl
  exact State.fetchInstr_oneWord hword decodeFirst_zero rfl

/-- The effect of NOP is the state itself, to which the base cycles are added. -/
theorem exec_nop {s : State} (h : s.implements .nop) : exec .nop s = .next (s.charge .nop) :=
  execute_completes s h

/-- Settles O51: in a step the entry moves `nextpc` over the two bytes, the execution adds the base cycles, and the
retirement takes `nextpc` to `pc`. -/
theorem nopCompletes : Obligations.NopCompletes := by
  refine ⟨decodeWords_zero 0, rfl, fun s himpl => ⟨exec_nop himpl, fun hin hlo hhi => ?_⟩⟩
  have hexec : exec .nop (s.enter 2) = .next ((s.enter 2).charge .nop) := exec_nop himpl
  exact step_of_exec_next (State.fetchInstr_zero hin hlo hhi) hexec

end Sys2Proof.Machine
end

section
/-! PROOFS. What an instruction may do, said once for all of them: `Within` bounds the difference of two states by a
footprint, every operation of the machine stays within the footprint that names what it writes, and `Effect` lists the
shapes of a meaning. The frames, the invariant and the faults are read off these. -/

namespace Sys2Proof.Machine

/-! ### Flags an operation keeps (40 R201 to R204, 10 R26) -/

/-- The eight flag numbers, one by one. -/
theorem forall_imm3 {P : IMM3 → Prop} :
    (∀ b, P b) ↔ P 0 ∧ P 1 ∧ P 2 ∧ P 3 ∧ P 4 ∧ P 5 ∧ P 6 ∧ P 7 := by
  refine ⟨fun h => ⟨h 0, h 1, h 2, h 3, h 4, h 5, h 6, h 7⟩, fun ⟨h0, h1, h2, h3, h4, h5, h6, h7⟩ b => ?_⟩
  have hb : b = 0 ∨ b = 1 ∨ b = 2 ∨ b = 3 ∨ b = 4 ∨ b = 5 ∨ b = 6 ∨ b = 7 := by
    revert b
    decide
  rcases hb with rfl | rfl | rfl | rfl | rfl | rfl | rfl | rfl <;> assumption

/-- Every flag outside the list is as before. -/
def KeepsFlags (written : List IMM3) (f g : Flags) : Prop := ∀ b ∉ written, g.bit b = f.bit b

theorem KeepsFlags.refl (written : List IMM3) (f : Flags) : KeepsFlags written f f := fun _ _ => rfl

theorem add8_keeps {a b : Byte} {c : Bool} {f : Flags} : KeepsFlags [0, 1, 2, 3, 4, 5] f (add8 a b c f).2 := by
  simp [KeepsFlags, forall_imm3, Flags.bit, add8]

theorem sub8_keeps {a b : Byte} {c : Bool} {f : Flags} : KeepsFlags [0, 1, 2, 3, 4, 5] f (sub8 a b c f).2 := by
  simp [KeepsFlags, forall_imm3, Flags.bit, sub8]

theorem sub8pz_keeps {a b : Byte} {c : Bool} {f : Flags} : KeepsFlags [0, 1, 2, 3, 4, 5] f (sub8pz a b c f).2 := by
  simp [KeepsFlags, forall_imm3, Flags.bit, sub8pz, sub8]

theorem logic8_keeps {r : Byte} {f : Flags} : KeepsFlags [1, 2, 3, 4] f (logic8 r f).2 := by
  simp [KeepsFlags, forall_imm3, Flags.bit, logic8]

theorem com8_keeps {a : Byte} {f : Flags} : KeepsFlags [0, 1, 2, 3, 4] f (com8 a f).2 := by
  simp [KeepsFlags, forall_imm3, Flags.bit, com8, logic8]

theorem inc8_keeps {a : Byte} {f : Flags} : KeepsFlags [1, 2, 3, 4] f (inc8 a f).2 := by
  simp [KeepsFlags, forall_imm3, Flags.bit, inc8]

theorem dec8_keeps {a : Byte} {f : Flags} : KeepsFlags [1, 2, 3, 4] f (dec8 a f).2 := by
  simp [KeepsFlags, forall_imm3, Flags.bit, dec8]

theorem shiftLeft8_keeps {a : Byte} {inj : Bool} {f : Flags} :
    KeepsFlags [0, 1, 2, 3, 4, 5] f (shiftLeft8 a inj f).2 := by
  simp [KeepsFlags, forall_imm3, Flags.bit, shiftLeft8]

theorem shiftRight8_keeps {a : Byte} {inj : Bool} {f : Flags} :
    KeepsFlags [0, 1, 2, 3, 4] f (shiftRight8 a inj f).2 := by
  simp [KeepsFlags, forall_imm3, Flags.bit, shiftRight8]

theorem addWord_keeps {a : Word16} {k : IMM6} {f : Flags} : KeepsFlags [0, 1, 2, 3, 4] f (addWord a k f).2 := by
  simp [KeepsFlags, forall_imm3, Flags.bit, addWord]

theorem subWord_keeps {a : Word16} {k : IMM6} {f : Flags} : KeepsFlags [0, 1, 2, 3, 4] f (subWord a k f).2 := by
  simp [KeepsFlags, forall_imm3, Flags.bit, subWord]

theorem mulFlags_keeps {p : Word16} {f : Flags} : KeepsFlags [0, 1] f (mulFlags p f).2 := by
  simp [KeepsFlags, forall_imm3, Flags.bit, mulFlags]

theorem fmulFlags_keeps {p : Word16} {f : Flags} : KeepsFlags [0, 1] f (fmulFlags p f).2 := by
  simp [KeepsFlags, forall_imm3, Flags.bit, fmulFlags]

/-- A direct flag write changes the flag it names and no other (41 R266, R267). -/
theorem Flags.bit_setBit (f : Flags) (v : Bool) :
    ∀ k b : IMM3, (f.setBit k v).bit b = if b = k then v else f.bit b := by
  simp only [forall_imm3]
  simp [Flags.bit, Flags.setBit]

theorem Flags.setBit_keeps (f : Flags) (k : IMM3) (v : Bool) : KeepsFlags [k] f (f.setBit k v) := fun b hb => by
  rw [Flags.bit_setBit, if_neg (by simpa using hb)]

/-! ### States that differ within a footprint -/

/-- The part of the invariant that speaks of the parameters and the three memories. -/
structure State.MemoriesOk (s : State) : Prop where
  dev_wf : s.dev.wf = true
  io_wf : s.io.wf = true
  ram_wf : s.ram.wf = true
  flash_wf : s.flash.wf = true
  io_keys : ∀ cell ∈ s.io, Device.storesIo s.dev cell.1 = true
  ram_keys : ∀ cell ∈ s.ram, 32 + s.dev.nIo ≤ cell.1 ∧ cell.1 < s.dev.segSize
  flash_keys : ∀ cell ∈ s.flash, cell.1 < s.dev.flashBytes

theorem State.Inv.memoriesOk {s : State} (h : s.Inv) : s.MemoriesOk :=
  ⟨h.dev_wf, h.io_wf, h.ram_wf, h.flash_wf, h.io_keys, h.ram_keys, h.flash_keys⟩

/-- What may be written: registers and flags named by the instruction, data addresses, and SP. -/
structure Footprint where
  regs : List (Fin 32)
  flags : List IMM3
  stores : List Nat
  sp : Bool

/-- What the instruction writes, in the state before it. -/
def footprint (i : Instr) (s : State) : Footprint := ⟨regsWritten i, flagsWritten i, storesTo i s, movesSp i⟩

/-- `t` differs from `s` only where the footprint allows it, after at most `n` calls of I/O handlers. -/
structure Within (fp : Footprint) (n : Nat) (s t : State) : Prop where
  dev : t.dev = s.dev
  flash : t.flash = s.flash
  pc : t.pc = s.pc
  nextpc : t.nextpc = s.nextpc
  cycles : t.cycles = s.cycles
  regs : ∀ q ∉ fp.regs, q.val ∉ fp.stores → t.reg q = s.reg q
  flags : 32 + s.dev.sregIo ∉ fp.stores → KeepsFlags fp.flags s.flags t.flags
  spl : fp.sp = false → 32 + s.dev.splIo ∉ fp.stores → t.spl = s.spl
  sph : fp.sp = false → 32 + s.dev.sphIo ∉ fp.stores → t.sph = s.sph
  rampz : 32 + s.dev.rampzIo ∉ fp.stores → t.rampz = s.rampz
  io : ∀ j, 32 + j ∉ fp.stores → t.io.read j = s.io.read j
  ram : ∀ a ∉ fp.stores, t.ram.read a = s.ram.read a
  calls : ∃ new : List IoAccess, new.length ≤ n ∧ t.ioTrace = new ++ s.ioTrace
  memories : s.MemoriesOk → t.MemoriesOk

section
variable {fp : Footprint} {m n : Nat} {s t u : State}

theorem Within.refl (fp : Footprint) (n : Nat) (s : State) : Within fp n s s where
  dev := rfl
  flash := rfl
  pc := rfl
  nextpc := rfl
  cycles := rfl
  regs _ _ _ := rfl
  flags _ := KeepsFlags.refl _ _
  spl _ _ := rfl
  sph _ _ := rfl
  rampz _ := rfl
  io _ _ := rfl
  ram _ _ := rfl
  calls := ⟨[], Nat.zero_le n, rfl⟩
  memories h := h

theorem Within.trans (h₁ : Within fp m s t) (h₂ : Within fp n t u) : Within fp (m + n) s u where
  dev := h₂.dev.trans h₁.dev
  flash := h₂.flash.trans h₁.flash
  pc := h₂.pc.trans h₁.pc
  nextpc := h₂.nextpc.trans h₁.nextpc
  cycles := h₂.cycles.trans h₁.cycles
  regs q hq ha := (h₂.regs q hq ha).trans (h₁.regs q hq ha)
  flags ha b hb := (h₂.flags (h₁.dev ▸ ha) b hb).trans (h₁.flags ha b hb)
  spl hsp ha := (h₂.spl hsp (h₁.dev ▸ ha)).trans (h₁.spl hsp ha)
  sph hsp ha := (h₂.sph hsp (h₁.dev ▸ ha)).trans (h₁.sph hsp ha)
  rampz ha := (h₂.rampz (h₁.dev ▸ ha)).trans (h₁.rampz ha)
  io j hj := (h₂.io j hj).trans (h₁.io j hj)
  ram a ha := (h₂.ram a ha).trans (h₁.ram a ha)
  calls := by
    obtain ⟨new₁, hlen₁, htrace₁⟩ := h₁.calls
    obtain ⟨new₂, hlen₂, htrace₂⟩ := h₂.calls
    refine ⟨new₂ ++ new₁, ?_, by rw [htrace₂, htrace₁, List.append_assoc]⟩
    rw [List.length_append]
    omega
  memories h := h₂.memories (h₁.memories h)

theorem Within.mono (h : Within fp m s t) (hmn : m ≤ n) : Within fp n s t := by
  obtain ⟨new, hlen, htrace⟩ := h.calls
  exact { h with calls := ⟨new, hlen.trans hmn, htrace⟩ }

/-! ### Each operation stays within a footprint that names what it writes -/

theorem Within.setReg {r : Fin 32} (v : Byte) (hr : r ∈ fp.regs ∨ r.val ∈ fp.stores) :
    Within fp n s (s.setReg r v) where
  __ := Within.refl fp n s
  regs q hq ha := s.reg_setReg_other v <| by
    rintro rfl
    exact hr.elim hq ha
  memories h := { h with }

theorem Within.setFlags {f : Flags} (hf : KeepsFlags fp.flags s.flags f) : Within fp n s (s.setFlags f) where
  __ := Within.refl fp n s
  flags _ := hf
  memories h := { h with }

theorem Within.setSp (v : Word16) (hsp : fp.sp = true) : Within fp n s (s.setSp v) where
  __ := Within.refl fp n s
  spl h := absurd (hsp.symm.trans h) Bool.noConfusion
  sph h := absurd (hsp.symm.trans h) Bool.noConfusion
  memories h := { h with }

theorem Within.setAlu {r : Fin 32} {out : Byte × Flags} (hr : r ∈ fp.regs)
    (hf : KeepsFlags fp.flags s.flags out.2) : Within fp n s (s.setAlu r out) :=
  ((Within.setReg (n := 0) out.1 (.inl hr)).trans (Within.setFlags (n := 0) (s := s.setReg r out.1) hf)).mono n.zero_le

theorem Within.setPair {k : Fin 16} (v : Word16) (hl : pairLow k ∈ fp.regs) (hh : pairHigh k ∈ fp.regs) :
    Within fp n s (s.setPair k v) :=
  ((Within.setReg (n := 0) _ (.inl hl)).trans (Within.setReg (n := 0) _ (.inl hh))).mono n.zero_le

theorem Within.setAluPair {k : Fin 16} {out : Word16 × Flags} (hl : pairLow k ∈ fp.regs) (hh : pairHigh k ∈ fp.regs)
    (hf : KeepsFlags fp.flags s.flags out.2) : Within fp n s (s.setAluPair k out) :=
  ((Within.setPair (n := 0) out.1 hl hh).trans (Within.setFlags (n := 0) (s := s.setPair k out.1) hf)).mono n.zero_le

theorem Within.ioRead (fp : Footprint) (s : State) (i : Nat) : Within fp 1 s (s.ioRead i).2 := by
  rcases s.ioRead_cases i with ⟨v, -, h⟩ | ⟨-, -, h⟩ <;> rw [h]
  · exact Within.refl fp 1 s
  · exact { Within.refl fp 1 s with calls := ⟨[_], le_rfl, rfl⟩, memories := fun h => { h with } }

theorem Within.memRead {a : Nat} {v : Byte} (h : s.memRead a = .ok (v, t)) : Within fp 1 s t := by
  obtain ⟨-, ⟨-, ht⟩ | ⟨-, -, -, -, -, ht⟩⟩ := State.memRead_ok h <;> rw [show t = _ from ht]
  · exact Within.refl fp 1 s
  · exact { Within.refl fp 1 s with calls := ⟨[_], le_rfl, rfl⟩, memories := fun h => { h with } }

/-- A write of the I/O region writes at its data address, 32 above its index (20 R60). -/
theorem Within.ioWrite {i : Nat} (v : Byte) (ha : 32 + i ∈ fp.stores) (hi : s.dev.wf = true → i < s.dev.nIo) :
    Within fp 1 s (s.ioWrite i v) := by
  rcases s.ioWrite_cases i v with ⟨rfl, h⟩ | ⟨rfl, h⟩ | ⟨rfl, h⟩ | ⟨-, rfl, h⟩ | ⟨-, h⟩ | ⟨hstores, h⟩ <;> rw [h]
  · exact { Within.refl fp 1 s with flags := absurd ha, memories := fun h => { h with } }
  · exact { Within.refl fp 1 s with spl := fun _ => absurd ha, memories := fun h => { h with } }
  · exact { Within.refl fp 1 s with sph := fun _ => absurd ha, memories := fun h => { h with } }
  · exact { Within.refl fp 1 s with rampz := absurd ha, memories := fun h => { h with } }
  · exact { Within.refl fp 1 s with calls := ⟨[_], le_rfl, rfl⟩, memories := fun h => { h with } }
  · refine { Within.refl fp 1 s with io := fun j hj => ?_, memories := fun h => ?_ }
    · exact Memory.read_write_other s.io v (by rintro rfl; exact hj ha)
    · refine { h with io_wf := Memory.write_wf h.io_wf i v, io_keys := fun cell hcell => ?_ }
      have hin := hi h.dev_wf
      rcases Memory.mem_write hcell with hkey | hold
      · exact hkey ▸ hstores.resolve_right (by omega)
      · exact h.io_keys cell hold

/-- A data write writes at its address (20 R63). -/
theorem Within.memWrite {a : Nat} {v : Byte} (ha : a ∈ fp.stores) (h : s.memWrite a v = .ok t) : Within fp 1 s t := by
  rcases State.memWrite_ok h with ⟨_, rfl⟩ | ⟨hlo, hhi, rfl⟩ | ⟨hlo, hhi, rfl⟩
  · exact Within.setReg v (.inr ha)
  · exact Within.ioWrite v (by rwa [Nat.add_sub_cancel' hlo]) fun _ => by omega
  · refine { Within.refl fp 1 s with ram := fun b hb => ?_, memories := fun h => ?_ }
    · exact Memory.read_write_other s.ram v (by rintro rfl; exact hb ha)
    · refine { h with ram_wf := Memory.write_wf h.ram_wf a v, ram_keys := fun cell hcell => ?_ }
      rcases Memory.mem_write hcell with hkey | hold
      · rw [hkey]
        exact ⟨hlo, hhi⟩
      · exact h.ram_keys cell hold

theorem Within.push {v : Byte} (hsp : fp.sp = true) (ha : s.sp.toNat ∈ fp.stores) (h : s.push v = .ok t) :
    Within fp 1 s t := by
  obtain ⟨m, hm, rfl⟩ := State.push_ok h
  exact (Within.memWrite ha hm).trans (Within.setSp (n := 0) _ hsp)

theorem Within.pop {v : Byte} (hsp : fp.sp = true) (h : s.pop = .ok (v, t)) : Within fp 1 s t :=
  (Within.setSp (n := 0) (s.sp + 1) hsp).trans (Within.memRead h)

theorem State.push_sp {v : Byte} (h : s.push v = .ok t) : t.sp = s.sp - 1 := by
  obtain ⟨m, -, rfl⟩ := State.push_ok h
  exact State.sp_setSp m _

/-- A push of a return address writes at SP and at one below it (20 R76, 43 R381). -/
theorem Within.pushPC {a : Nat} (hsp : fp.sp = true) (ha : fp.stores = [s.sp.toNat, (s.sp - 1).toNat])
    (h : s.pushPC a = .ok t) : Within fp 2 s t := by
  obtain ⟨m, hlow, hhigh⟩ := State.pushPC_ok h
  have hm : m.sp.toNat ∈ fp.stores := by simp [ha, State.push_sp hlow]
  exact (Within.push hsp (by simp [ha]) hlow).trans (Within.push hsp hm hhigh)

theorem Within.popPC {a : Nat} (hsp : fp.sp = true) (h : s.popPC = .ok (a, t)) : Within fp 2 s t := by
  obtain ⟨_, _, m, hhigh, hlow, -⟩ := State.popPC_ok h
  exact (Within.pop hsp hhigh).trans (Within.pop hsp hlow)

end

end Sys2Proof.Machine
end

section
/-! PROOFS. The shapes of a meaning: every instruction is `execute` of one of the shapes of `Effect`, and what completes
stays within the footprint of the instruction. -/

namespace Sys2Proof.Machine

/-! ### Memory operands (spec 42) -/

/-- The outcome of an access, or the fault of a word of 42 R311. -/
def unlessOverlap (overlap : Option Mnemonic) (o : Outcome) : Outcome :=
  match overlap with
  | some m => .fault (.unpredictable m)
  | none => o

/-- The overlap check of an updating form, in the terms of `overlapOf`. -/
theorem ite_holds_eq_unlessOverlap (p : Ptr) (d : Fin 32) (m : Mnemonic) (o : Outcome) :
    (if p.holds d then .fault (.unpredictable m) else o) =
      unlessOverlap (if d = pairLow p.pair ∨ d = pairHigh p.pair then some m else none) o := by
  simp only [Ptr.holds, Bool.or_eq_true, beq_iff_eq]
  split <;> rfl

/-- A load reads one byte at its operand's address. -/
theorem exec_of_loadOperand {i : Instr} {s u : State} {d : Fin 32} {ea : Nat} (h : loadOperand i s = some (d, ea, u)) :
    exec i s = execute i.mnemonic s (unlessOverlap (overlapOf i) (loadFrom d ea u)) := by
  cases i with
  | ldX | lddY | lddZ | lds | ldY | ldZ => cases h; rfl
  | ldXp r | ldMx r => cases h; exact congrArg (execute _ s) (ite_holds_eq_unlessOverlap .x (gpr r) _ _)
  | ldYp r | ldMy r => cases h; exact congrArg (execute _ s) (ite_holds_eq_unlessOverlap .y (gpr r) _ _)
  | ldZp r | ldMz r => cases h; exact congrArg (execute _ s) (ite_holds_eq_unlessOverlap .z (gpr r) _ _)
  | _ => cases h

/-- A store writes one byte at its operand's address. -/
theorem exec_of_storeOperand {i : Instr} {s u : State} {v : Byte} {ea : Nat}
    (h : storeOperand i s = some (v, ea, u)) :
    exec i s = execute i.mnemonic s (unlessOverlap (overlapOf i) (storeTo v ea u)) := by
  cases i with
  | stX | stdY | stdZ | sts | stY | stZ => cases h; rfl
  | stXp r | stMx r => cases h; exact congrArg (execute _ s) (ite_holds_eq_unlessOverlap .x (gpr r) _ _)
  | stYp r | stMy r => cases h; exact congrArg (execute _ s) (ite_holds_eq_unlessOverlap .y (gpr r) _ _)
  | stZp r | stMz r => cases h; exact congrArg (execute _ s) (ite_holds_eq_unlessOverlap .z (gpr r) _ _)
  | _ => cases h

/-- A program-memory load reads one byte at its operand's address. -/
theorem exec_of_flashOperand {i : Instr} {s u : State} {d : Fin 32} {pa : Nat}
    (h : flashOperand i s = some (d, pa, u)) :
    exec i s = execute i.mnemonic s (unlessOverlap (overlapOf i) (loadFlash d pa u)) := by
  cases i with
  | lpm | lpmZ | elpm | elpmZ => cases h; rfl
  | lpmZp r | elpmZp r => cases h; exact congrArg (execute _ s) (ite_holds_eq_unlessOverlap .z (gpr r) _ _)
  | _ => cases h

theorem loadOperand_within {i : Instr} {s u : State} {d : Fin 32} {ea : Nat}
    (h : loadOperand i s = some (d, ea, u)) : d ∈ regsWritten i ∧ Within (footprint i s) 0 s u := by
  cases i with
  | ldX | lddY | lddZ | lds | ldY | ldZ => cases h; exact ⟨.head _, Within.refl _ _ _⟩
  | ldXp | ldMx | ldYp | ldMy | ldZp | ldMz =>
    cases h; exact ⟨.head _, Within.setPair _ (.tail _ (.head _)) (.tail _ (.tail _ (.head _)))⟩
  | _ => cases h

theorem storeOperand_within {i : Instr} {s u : State} {v : Byte} {ea : Nat}
    (h : storeOperand i s = some (v, ea, u)) : storesTo i s = [ea] ∧ Within (footprint i s) 0 s u := by
  cases i with
  | stX | stdY | stdZ | sts | stY | stZ => cases h; exact ⟨rfl, Within.refl _ _ _⟩
  | stXp | stMx | stYp | stMy | stZp | stMz =>
    cases h; exact ⟨rfl, Within.setPair _ (.head _) (.tail _ (.head _))⟩
  | _ => cases h

theorem flashOperand_within {i : Instr} {s u : State} {d : Fin 32} {pa : Nat}
    (h : flashOperand i s = some (d, pa, u)) : d ∈ regsWritten i ∧ Within (footprint i s) 0 s u := by
  cases i with
  | lpm | lpmZ | elpm | elpmZ => cases h; exact ⟨.head _, Within.refl _ _ _⟩
  | lpmZp | elpmZp =>
    cases h; exact ⟨.head _, Within.setPair _ (.tail _ (.head _)) (.tail _ (.tail _ (.head _)))⟩
  | _ => cases h

/-! ### Branches, skips and jumps (spec 43) -/

theorem exec_of_branchTest {i : Instr} {s : State} {taken : Bool} {k : SREL} (h : branchTest i s = some (taken, k)) :
    isControl i = true ∧ exec i s = execute i.mnemonic s (branchIf taken k s) := by
  cases i with
  | brbs | brbc | brcs | brlo | breq | brmi | brvs | brlt | brhs | brts | brie | brcc | brsh | brne | brpl | brvc
  | brge | brhc | brtc | brid => cases h; exact ⟨rfl, rfl⟩
  | _ => cases h

theorem exec_of_skipTest {i : Instr} {s u : State} {taken : Bool} (h : skipTest i s = some (taken, u)) :
    isControl i = true ∧ exec i s = execute i.mnemonic s (skipIf taken u) := by
  cases i with
  | cpse | sbrc | sbrs | sbic | sbis => cases h; exact ⟨rfl, rfl⟩
  | _ => cases h

/-- The test of a skip reads at most one I/O byte. -/
theorem skipTest_within {i : Instr} {s u : State} {taken : Bool} (h : skipTest i s = some (taken, u)) :
    Within (footprint i s) 1 s u := by
  cases i with
  | cpse | sbrc | sbrs => cases h; exact Within.refl _ _ _
  | sbic a | sbis a => cases h; exact Within.ioRead _ s a.toNat
  | _ => cases h

/-! ### The shapes -/

/-- What the effect of an instruction can be, its device implementing it. -/
inductive Effect (i : Instr) (s : State) : Outcome → Prop where
  /-- Registers, flags and I/O bytes are read and written; nothing faults. -/
  | compute {t : State} (ht : Within (footprint i s) 2 s t) : Effect i s (.next t)
  | load {d : Fin 32} {ea : Nat} {u : State} (op : loadOperand i s = some (d, ea, u)) :
      Effect i s (unlessOverlap (overlapOf i) (loadFrom d ea u))
  | store {v : Byte} {ea : Nat} {u : State} (op : storeOperand i s = some (v, ea, u)) :
      Effect i s (unlessOverlap (overlapOf i) (storeTo v ea u))
  | flash {d : Fin 32} {pa : Nat} {u : State} (op : flashOperand i s = some (d, pa, u)) :
      Effect i s (unlessOverlap (overlapOf i) (loadFlash d pa u))
  | push {r : GPR} (hi : i = .push r) : Effect i s (andThen (s.push (s.reg (gpr r))) .next)
  | pop {d : GPR} (hi : i = .pop d) : Effect i s (andThen s.pop fun got => .next (got.2.setReg (gpr d) got.1))
  | jump {target : Nat} (hc : isControl i = true) (heven : s.nextpc % 2 = 0 → target % 2 = 0) :
      Effect i s (.next (s.jumpTo target))
  | call {target : Nat} (hc : isControl i = true) (hsp : movesSp i = true)
      (hstores : storesTo i s = [s.sp.toNat, (s.sp - 1).toNat]) (heven : s.nextpc % 2 = 0 → target % 2 = 0) :
      Effect i s (callTo target s)
  | ret (hi : i = .ret) : Effect i s (andThen s.popPC fun got => .next (got.2.jumpTo got.1))
  | reti (hi : i = .reti) : Effect i s (andThen s.returnFromInterrupt .next)
  | branch {taken : Bool} {k : SREL} (op : branchTest i s = some (taken, k)) : Effect i s (branchIf taken k s)
  | skip {taken : Bool} {u : State} (op : skipTest i s = some (taken, u)) : Effect i s (skipIf taken u)
  /-- The six instructions to which the spec gives no meaning (44 R455, log 6). -/
  | unsupplied (hm : i.mnemonic ∈ Config.defaultUnimplSet) : Effect i s (.fault (.unsupplied i.mnemonic))

/-- Reduced modulo a power of two, an even number stays even. -/
theorem emod_two_pow_even {a : Int} (n : Nat) (h : a % 2 = 0) : a % (2 ^ n : Nat) % 2 = 0 := by
  cases n with
  | zero => rw [Nat.pow_zero, Nat.cast_one, Int.emod_one, Int.zero_emod]
  | succ n =>
    have hdvd : (2 : Int) ∣ (2 ^ (n + 1) : Nat) := ⟨(2 ^ n : Nat), by rw [Nat.pow_succ]; push_cast; ring⟩
    rw [Int.emod_emod_of_dvd a hdvd, h]

theorem mod_pcMod_even {d : Device} {a : Nat} (h : a % 2 = 0) : a % d.pcMod % 2 = 0 := by
  have := emod_two_pow_even (a := a) d.pcBits (by omega)
  unfold Device.pcMod
  omega

theorem Device.pcMod_pos (d : Device) : 0 < d.pcMod := Nat.two_pow_pos d.pcBits

theorem State.relTarget_cast (s : State) (k : Int) : (s.relTarget k : Int) = (s.nextpc + 2 * k) % s.dev.pcMod := by
  have := Device.pcMod_pos s.dev
  exact Int.toNat_of_nonneg (Int.emod_nonneg _ (by omega))

theorem State.relTarget_even {s : State} (k : Int) (h : s.nextpc % 2 = 0) : s.relTarget k % 2 = 0 := by
  have hcast := s.relTarget_cast k
  have heven := emod_two_pow_even (a := s.nextpc + 2 * k) s.dev.pcBits (by omega)
  rw [Device.pcMod] at hcast
  omega

theorem Device.wf_nIo {d : Device} (h : d.wf = true) : 64 ≤ d.nIo := by
  simp only [Device.wf, Bool.and_eq_true, decide_eq_true_eq, and_assoc] at h
  exact h.1

/-- SBI and CBI read their I/O byte, then write it (41 R270, 20 R86). -/
theorem Within.ioUpdateBit {fp : Footprint} {s : State} (a : IMM5) (b : IMM3) (value : Bool)
    (ha : 32 + a.toNat ∈ fp.stores) : Within fp 2 s (ioUpdateBit a b value s) := by
  have hread := Within.ioRead fp s a.toNat
  refine hread.trans (Within.ioWrite _ ha fun hwf => ?_)
  have := Device.wf_nIo hwf
  omega

/-- Every instruction executes as one of the shapes. -/
theorem exec_effect (i : Instr) (s : State) : ∃ o, exec i s = execute i.mnemonic s o ∧ Effect i s o := by
  cases i with
  | add | adc => exact ⟨_, rfl, .compute (Within.setAlu (.head _) (add8_keeps))⟩
  | sub | subi | neg => exact ⟨_, rfl, .compute (Within.setAlu (.head _) (sub8_keeps))⟩
  | sbc | sbci => exact ⟨_, rfl, .compute (Within.setAlu (.head _) (sub8pz_keeps))⟩
  | and | andi | or | ori | eor | tst | clr | sbr | cbr =>
    exact ⟨_, rfl, .compute (Within.setAlu (.head _) (logic8_keeps))⟩
  | com => exact ⟨_, rfl, .compute (Within.setAlu (.head _) (com8_keeps))⟩
  | inc => exact ⟨_, rfl, .compute (Within.setAlu (.head _) (inc8_keeps))⟩
  | dec => exact ⟨_, rfl, .compute (Within.setAlu (.head _) (dec8_keeps))⟩
  | lsl | rol => exact ⟨_, rfl, .compute (Within.setAlu (.head _) (shiftLeft8_keeps))⟩
  | lsr | asr | ror => exact ⟨_, rfl, .compute (Within.setAlu (.head _) (shiftRight8_keeps))⟩
  | adiw =>
    exact ⟨_, rfl, .compute (Within.setAluPair (.head _) (.tail _ (.head _)) (addWord_keeps))⟩
  | sbiw =>
    exact ⟨_, rfl, .compute (Within.setAluPair (.head _) (.tail _ (.head _)) (subWord_keeps))⟩
  | mul | muls | mulsu =>
    exact ⟨_, rfl, .compute (Within.setAluPair (.head _) (.tail _ (.head _)) (mulFlags_keeps))⟩
  | fmul | fmuls | fmulsu =>
    exact ⟨_, rfl, .compute (Within.setAluPair (.head _) (.tail _ (.head _)) (fmulFlags_keeps))⟩
  | cp | cpi => exact ⟨_, rfl, .compute (Within.setFlags (sub8_keeps))⟩
  | cpc => exact ⟨_, rfl, .compute (Within.setFlags (sub8pz_keeps))⟩
  | bset b | bclr b => exact ⟨_, rfl, .compute (Within.setFlags (Flags.setBit_keeps s.flags b _))⟩
  | sec | clc => exact ⟨_, rfl, .compute (Within.setFlags (Flags.setBit_keeps s.flags 0 _))⟩
  | sez | clz => exact ⟨_, rfl, .compute (Within.setFlags (Flags.setBit_keeps s.flags 1 _))⟩
  | sen | cln => exact ⟨_, rfl, .compute (Within.setFlags (Flags.setBit_keeps s.flags 2 _))⟩
  | sev | clv => exact ⟨_, rfl, .compute (Within.setFlags (Flags.setBit_keeps s.flags 3 _))⟩
  | ses | cls => exact ⟨_, rfl, .compute (Within.setFlags (Flags.setBit_keeps s.flags 4 _))⟩
  | seh | clh => exact ⟨_, rfl, .compute (Within.setFlags (Flags.setBit_keeps s.flags 5 _))⟩
  | set_ | clt | bst => exact ⟨_, rfl, .compute (Within.setFlags (Flags.setBit_keeps s.flags 6 _))⟩
  | sei => exact ⟨_, rfl, .compute (Within.setFlags (Flags.setBit_keeps s.flags 7 true))⟩
  | cli => exact ⟨_, rfl, .compute (Within.setFlags (Flags.setBit_keeps s.flags 7 false))⟩
  | mov | ldi | ser | swap | bld => exact ⟨_, rfl, .compute (Within.setReg _ (.inl (.head _)))⟩
  | movw => exact ⟨_, rfl, .compute (Within.setPair _ (.head _) (.tail _ (.head _)))⟩
  | nop => exact ⟨_, rfl, .compute (Within.refl _ _ s)⟩
  | in_ d a =>
    exact ⟨_, rfl, .compute ((Within.ioRead _ s a.toNat).trans (Within.setReg (n := 1) _ (.inl (.head _))))⟩
  | out a r =>
    have hindex : s.dev.wf = true → a.toNat < s.dev.nIo := fun hwf => by have := Device.wf_nIo hwf; omega
    exact ⟨_, rfl, .compute ((Within.ioWrite _ (.head _) hindex).mono one_le_two)⟩
  | sbi a b | cbi a b => exact ⟨_, rfl, .compute (Within.ioUpdateBit a b _ (.head _))⟩
  | ldX | ldXp | ldMx | ldYp | ldMy | ldZp | ldMz | lddY | lddZ | lds | ldY | ldZ =>
    exact ⟨_, exec_of_loadOperand rfl, .load rfl⟩
  | stX | stXp | stMx | stYp | stMy | stZp | stMz | stdY | stdZ | sts | stY | stZ =>
    exact ⟨_, exec_of_storeOperand rfl, .store rfl⟩
  | lpm | lpmZ | lpmZp | elpm | elpmZ | elpmZp => exact ⟨_, exec_of_flashOperand rfl, .flash rfl⟩
  | push => exact ⟨_, rfl, .push rfl⟩
  | pop => exact ⟨_, rfl, .pop rfl⟩
  | rjmp k => exact ⟨_, rfl, .jump rfl (State.relTarget_even _)⟩
  | ijmp | jmp => exact ⟨_, rfl, .jump rfl fun _ => Nat.mul_mod_right 2 _⟩
  | rcall k => exact ⟨_, rfl, .call rfl rfl rfl (State.relTarget_even _)⟩
  | icall | call => exact ⟨_, rfl, .call rfl rfl rfl fun _ => Nat.mul_mod_right 2 _⟩
  | ret => exact ⟨_, rfl, .ret rfl⟩
  | reti => exact ⟨_, rfl, .reti rfl⟩
  | brbs | brbc | brcs | brlo | breq | brmi | brvs | brlt | brhs | brts | brie | brcc | brsh | brne | brpl | brvc
  | brge | brhc | brtc | brid => exact ⟨_, (exec_of_branchTest rfl).2, .branch rfl⟩
  | cpse | sbrc | sbrs | sbic | sbis => exact ⟨_, (exec_of_skipTest rfl).2, .skip rfl⟩
  | spm | eijmp | eicall | sleep | wdr | break_ => exact ⟨_, rfl, .unsupplied (by simp only [Instr.mnemonic]; decide)⟩

/-! ### What completes -/

/-- Where control goes after an instruction, and the cycles it adds to the base cycles (43 R420, 70 R581). -/
structure Continues (i : Instr) (s : State) (next extra : Nat) : Prop where
  in_line : isControl i = false → next = s.nextpc ∧ extra = 0
  extra_le : extra ≤ 2
  even : s.nextpc % 2 = 0 → next % 2 = 0
  lt : s.nextpc < s.dev.pcMod → next < s.dev.pcMod

theorem Continues.inLine (i : Instr) (s : State) : Continues i s s.nextpc 0 :=
  ⟨fun _ => ⟨rfl, rfl⟩, Nat.zero_le 2, id, id⟩

/-- A control transfer writes `nextpc` modulo `2^PC_BITS` (10 R25). -/
theorem Continues.transfer {i : Instr} {s : State} {target extra : Nat} (hc : isControl i = true) (hextra : extra ≤ 2)
    (heven : s.nextpc % 2 = 0 → target % 2 = 0) : Continues i s (target % s.dev.pcMod) extra :=
  ⟨fun h => absurd (hc.symm.trans h) Bool.noConfusion, hextra, fun h => mod_pcMod_even (heven h),
    fun _ => Nat.mod_lt _ (Device.pcMod_pos s.dev)⟩

/-- The state after an effect: the footprint written, then `nextpc` and the extra cycles. -/
def Completes (i : Instr) (s t : State) : Prop :=
  ∃ u next extra, Within (footprint i s) 2 s u ∧ Continues i s next extra ∧
    t = { u with nextpc := next, cycles := u.cycles + extra }

theorem Completes.of_within {i : Instr} {s t : State} (h : Within (footprint i s) 2 s t) : Completes i s t :=
  ⟨t, s.nextpc, 0, h, Continues.inLine i s, by rw [← h.nextpc]; rfl⟩

theorem Completes.jumpTo {i : Instr} {s u : State} {target : Nat} (h : Within (footprint i s) 2 s u)
    (hc : isControl i = true) (heven : s.nextpc % 2 = 0 → target % 2 = 0) : Completes i s (u.jumpTo target) :=
  ⟨u, target % s.dev.pcMod, 0, h, Continues.transfer hc (Nat.zero_le 2) heven, by rw [← h.dev]; rfl⟩

theorem unlessOverlap_next {overlap : Option Mnemonic} {o : Outcome} {t : State}
    (h : unlessOverlap overlap o = .next t) : o = .next t := by
  cases overlap with
  | none => exact h
  | some m => cases h

theorem sizeOfWord_cases (w : Word16) : sizeOfWord w = 2 ∨ sizeOfWord w = 4 := by
  unfold sizeOfWord
  split
  · exact .inr rfl
  · exact .inl rfl

theorem popPC_even {s t : State} {a : Nat} (h : s.popPC = .ok (a, t)) : a % 2 = 0 := by
  obtain ⟨_, _, _, -, -, ha⟩ := State.popPC_ok h
  rw [show a = _ from ha]
  exact mod_pcMod_even (Nat.mul_mod_right 2 _)

theorem State.returnFromInterrupt_ok {s t : State} (h : s.returnFromInterrupt = .ok t) :
    ∃ a u, s.popPC = .ok (a, u) ∧ t = (u.jumpTo a).enableInterrupts := by
  unfold State.returnFromInterrupt at h
  split at h
  · cases h
    exact ⟨_, _, ‹_›, rfl⟩
  · cases h

/-- An effect that completes writes only its footprint, `nextpc` and the cycle counter. -/
theorem Effect.completes {i : Instr} {s t : State} {o : Outcome} (he : Effect i s o) (ho : o = .next t) :
    Completes i s t := by
  cases he with
  | compute hu => cases ho; exact .of_within hu
  | load op =>
    obtain ⟨v, u, hread, rfl⟩ := loadFrom_next (unlessOverlap_next ho)
    obtain ⟨hd, hptr⟩ := loadOperand_within op
    exact .of_within ((hptr.trans (Within.memRead hread)).trans (Within.setReg (n := 1) v (.inl hd)))
  | store op =>
    obtain ⟨hstores, hptr⟩ := storeOperand_within op
    have hwrite := Within.memWrite (fp := footprint i s) (by simp [footprint, hstores])
      (storeTo_next (unlessOverlap_next ho))
    exact .of_within ((hptr.trans hwrite).mono one_le_two)
  | flash op =>
    obtain ⟨-, rfl⟩ := loadFlash_next (unlessOverlap_next ho)
    obtain ⟨hd, hptr⟩ := flashOperand_within op
    exact .of_within (hptr.trans (Within.setReg (n := 2) _ (.inl hd)))
  | push hi =>
    obtain ⟨u, hpush, hu⟩ := andThen_next ho
    cases hu
    subst hi
    exact .of_within ((Within.push rfl (.head _) hpush).mono one_le_two)
  | pop hi =>
    obtain ⟨⟨v, u⟩, hpop, hu⟩ := andThen_next ho
    cases hu
    subst hi
    exact .of_within ((Within.pop rfl hpop).trans (Within.setReg (n := 1) v (.inl (.head _))))
  | jump hc heven => cases ho; exact .jumpTo (Within.refl _ _ s) hc heven
  | call hc hsp hstores heven =>
    obtain ⟨u, hpush, rfl⟩ := callTo_next ho
    exact .jumpTo (Within.pushPC hsp hstores hpush) hc heven
  | ret hi =>
    obtain ⟨⟨a, u⟩, hpop, hu⟩ := andThen_next ho
    cases hu
    subst hi
    exact .jumpTo (Within.popPC rfl hpop) rfl fun _ => popPC_even hpop
  | reti hi =>
    obtain ⟨r, hret, hr⟩ := andThen_next ho
    cases hr
    obtain ⟨a, u, hpop, rfl⟩ := State.returnFromInterrupt_ok hret
    subst hi
    have hflags : KeepsFlags [7] u.flags u.enableInterrupts.flags := Flags.setBit_keeps u.flags 7 true
    exact Completes.jumpTo (u := u.enableInterrupts)
      ((Within.popPC rfl hpop).trans (Within.setFlags (n := 0) hflags)) rfl fun _ => popPC_even hpop
  | @branch taken k op =>
    rw [branchIf_eq] at ho
    cases ho
    obtain ⟨hc, -⟩ := exec_of_branchTest op
    cases taken with
    | false => exact .of_within (Within.refl _ _ s)
    | true =>
      exact ⟨s, _, 1, Within.refl _ _ s, Continues.transfer hc one_le_two fun h => State.relTarget_even _ h, rfl⟩
  | skip op =>
    have hu := (skipTest_within op).mono one_le_two
    obtain ⟨hc, -⟩ := exec_of_skipTest op
    rcases skipIf_next ho with ⟨-, hskip⟩ | ⟨-, rfl⟩
    · obtain ⟨w, -, rfl⟩ := State.skip_ok hskip
      refine ⟨_, _, sizeOfWord w / 2, hu, ?_, rfl⟩
      have hsize := sizeOfWord_cases w
      rw [hu.nextpc, hu.dev]
      exact Continues.transfer hc (by omega) fun h => by omega
    · exact .of_within hu
  | unsupplied => cases ho

/-- What an instruction that completes does: it is implemented, and its base cycles come on top of its effect. -/
theorem exec_completes {i : Instr} {s t : State} (h : exec i s = .next t) :
    s.implements i ∧ ∃ u, Completes i s u ∧ t = u.charge i.mnemonic := by
  obtain ⟨o, hexec, heffect⟩ := exec_effect i s
  obtain ⟨himpl, u, ho, ht⟩ := execute_next (hexec.symm.trans h)
  exact ⟨himpl, u, heffect.completes ho, ht⟩

/-- The same as one equation: the footprint written, then `nextpc` and the cycle counter. -/
theorem exec_next {i : Instr} {s t : State} (h : exec i s = .next t) :
    ∃ u next extra, Within (footprint i s) 2 s u ∧ Continues i s next extra ∧
      t = { u with nextpc := next, cycles := s.cycles + s.baseCycles i + extra } := by
  obtain ⟨-, _, ⟨u, next, extra, hu, hnext, rfl⟩, rfl⟩ := exec_completes h
  refine ⟨u, next, extra, hu, hnext, ?_⟩
  have hcycles : u.cycles + extra + u.dev.cycBase i.mnemonic = s.cycles + s.baseCycles i + extra := by
    rw [hu.cycles, hu.dev, State.baseCycles]
    omega
  rw [← hcycles]
  rfl

end Sys2Proof.Machine
end

section
/-! PROOFS. The frames of the instructions (20 R61 to R69, 10 R24 to R31), read off `exec_next`. -/

namespace Sys2Proof.Machine

/-- Settles O54: a register outside the footprint is as before. -/
theorem registerFrame : Obligations.RegisterFrame := by
  intro i s t q h hq hstores
  obtain ⟨u, next, extra, hu, -, rfl⟩ := exec_next h
  exact hu.regs q hq hstores

/-- Settles O55: a flag outside the footprint is as before, where SREG's address is outside it. -/
theorem flagFrame : Obligations.FlagFrame := by
  intro i s t b h hb hsreg
  obtain ⟨u, next, extra, hu, -, rfl⟩ := exec_next h
  exact hu.flags hsreg b hb

/-- Equal flags, bit by bit, are equal. -/
theorem Flags.ext_of_bit {f g : Flags} (h : ∀ b, g.bit b = f.bit b) : g = f := by
  obtain ⟨h0, h1, h2, h3, h4, h5, h6, h7⟩ := forall_imm3.mp h
  cases f
  cases g
  simp_all [Flags.bit]

/-- An I/O index whose data address is outside the footprint reads as before. -/
theorem Within.ioPeek {fp : Footprint} {n : Nat} {s t : State} (h : Within fp n s t) {j : Nat} (hj : 32 + j ∉ fp.stores)
    (hsreg : j = s.dev.sregIo → fp.flags = []) (hsp : j = s.dev.splIo ∨ j = s.dev.sphIo → fp.sp = false) :
    t.ioPeek j = s.ioPeek j := by
  unfold State.ioPeek
  rw [h.dev]
  split_ifs with h1 h2 h3 h4
  · have hflags : t.flags = s.flags := by
      refine Flags.ext_of_bit fun b => h.flags (h1 ▸ hj) b ?_
      simp [hsreg h1]
    rw [State.sreg, hflags, State.sreg]
  · rw [h.spl (hsp (.inl h2)) (h2 ▸ hj)]
  · rw [h.sph (hsp (.inr h3)) (h3 ▸ hj)]
  · rw [h.rampz (h4.2 ▸ hj)]
  · rfl
  · rw [h.io j hj]

/-- A data address from 32 up that is outside the footprint reads as before. -/
theorem Within.peek {fp : Footprint} {n : Nat} {s t : State} (h : Within fp n s t) {a : Nat} (h32 : 32 ≤ a)
    (ha : a ∉ fp.stores) (hsreg : a = 32 + s.dev.sregIo → fp.flags = [])
    (hsp : a = 32 + s.dev.splIo ∨ a = 32 + s.dev.sphIo → fp.sp = false) : t.peek a = s.peek a := by
  obtain ⟨j, rfl⟩ := Nat.exists_eq_add_of_le h32
  unfold State.peek
  rw [h.dev, Nat.add_sub_cancel_left]
  split_ifs with h1 h2 h3
  · omega
  · exact h.ioPeek ha (fun hj => hsreg (by rw [hj])) fun hj => hsp (hj.imp (congrArg (32 + ·)) (congrArg (32 + ·)))
  · rw [h.ram _ ha]
  · rfl

/-- Settles O56: an address outside the footprint reads as before. -/
theorem memoryFrame : Obligations.MemoryFrame := by
  intro i s t a h h32 hstores hsreg hsp
  obtain ⟨u, next, extra, hu, -, rfl⟩ := exec_next h
  exact hu.peek h32 hstores hsreg hsp

/-- Settles O57: what no footprint names is as before, but for the control of flow and its cycles. -/
theorem specialRegisterFrame : Obligations.SpecialRegisterFrame := by
  intro i s t h
  obtain ⟨u, next, extra, hu, hnext, rfl⟩ := exec_next h
  have hextra : extra ≤ if isControl i then 2 else 0 := by
    split
    · exact hnext.extra_le
    · exact (hnext.in_line (Bool.eq_false_of_not_eq_true ‹_›)).2.le
  exact ⟨hu.dev, hu.flash, hu.pc, fun hc => (hnext.in_line hc).1, hu.spl, hu.sph, hu.rampz, Nat.le_add_right _ _,
    Nat.add_le_add_left hextra _, hu.calls⟩

end Sys2Proof.Machine
end

section
/-! PROOFS. The invariant of the core, along steps and interrupt entries (10 R24, R25, R36; 60 R508, R520). -/

namespace Sys2Proof.Machine

/-! ### One step -/

/-- A state whose memories are in order and whose `nextpc` is a program address meets the invariant once retired. -/
theorem State.MemoriesOk.inv_retire {s : State} (h : s.MemoriesOk) (heven : s.nextpc % 2 = 0)
    (hlt : s.nextpc < s.dev.pcMod) : s.retire.Inv :=
  { h with pc_even := heven, pc_lt := hlt, nextpc_eq := rfl }

theorem fetchInstr_size {s : State} {i : Instr} {size : Nat} (h : s.fetchInstr = .ok (i, size)) :
    size = 2 ∨ size = 4 := by
  obtain ⟨w0, w1, m, -, -, hgot, -⟩ := State.fetchInstr_ok h
  cases hgot
  exact sizeOfWord_cases w0

/-- Settles O13: the fetch gives an even size, so control enters and leaves the instruction at an even address, and the
instruction keeps the memories in order. -/
theorem stepKeepsInvariant : Obligations.StepKeepsInvariant := by
  intro s t hs hstep
  obtain ⟨i, size, u, hfetch, hexec, rfl⟩ := step_next hstep
  have hentered : (s.enter size).MemoriesOk := { hs.memoriesOk with }
  have heven : (s.enter size).nextpc % 2 = 0 := by
    have := hs.pc_even
    have := fetchInstr_size hfetch
    exact mod_pcMod_even (by omega)
  have hlt : (s.enter size).nextpc < (s.enter size).dev.pcMod := Nat.mod_lt _ (Device.pcMod_pos s.dev)
  obtain ⟨w, next, extra, hw, hnext, rfl⟩ := exec_next hexec
  have hok : w.MemoriesOk := hw.memories hentered
  refine State.MemoriesOk.inv_retire { hok with } (hnext.even heven) ?_
  rw [← hw.dev] at hlt
  exact hw.dev ▸ hnext.lt (hw.dev ▸ hlt)

/-- Settles O3: an instruction that is no control transfer leaves `nextpc` where the fetch put it. -/
theorem stepContinuesInLine : Obligations.StepContinuesInLine := by
  intro s t i size hfetch hcontrol hstep
  obtain ⟨i', size', u, hfetch', hexec, rfl⟩ := step_next hstep
  cases hfetch.symm.trans hfetch'
  obtain ⟨w, next, extra, -, hnext, rfl⟩ := exec_next hexec
  exact (hnext.in_line hcontrol).1

/-! ### Nothing is refused (60 R500) -/

theorem next_ne_refused (t : State) (x : Refusal) : (Host.Outcome.next t : Outcome) ≠ .refused x := nofun

theorem fault_ne_refused (e : Fault) (x : Refusal) : (Host.Outcome.fault e : Outcome) ≠ .refused x := nofun

theorem andThen_ne_refused {α : Type} {r : Except Fault α} {k : α → Outcome} {x : Refusal}
    (h : ∀ a, k a ≠ .refused x) : andThen r k ≠ .refused x := by
  cases r with
  | ok a => exact h a
  | error e => exact fault_ne_refused e x

theorem unlessOverlap_ne_refused {overlap : Option Mnemonic} {o : Outcome} {x : Refusal} (h : o ≠ .refused x) :
    unlessOverlap overlap o ≠ .refused x := by
  cases overlap with
  | none => exact h
  | some m => exact fault_ne_refused _ x

theorem Effect.ne_refused {i : Instr} {s : State} {o : Outcome} (h : Effect i s o) (x : Refusal) : o ≠ .refused x := by
  cases h with
  | compute | jump => exact next_ne_refused _ x
  | unsupplied => exact fault_ne_refused _ x
  | load | store | flash => exact unlessOverlap_ne_refused (andThen_ne_refused fun _ => next_ne_refused _ x)
  | push | pop | call | ret | reti => exact andThen_ne_refused fun _ => next_ne_refused _ x
  | branch => rw [branchIf_eq]; exact next_ne_refused _ x
  | @skip taken =>
    cases taken with
    | false => exact next_ne_refused _ x
    | true => exact andThen_ne_refused fun _ => next_ne_refused _ x

theorem exec_ne_refused (i : Instr) (s : State) (x : Refusal) : exec i s ≠ .refused x := fun h => by
  obtain ⟨o, hexec, heffect⟩ := exec_effect i s
  exact heffect.ne_refused x (execute_refused (hexec.symm.trans h))

theorem step_ne_refused (s : State) (x : Refusal) : step s ≠ .refused x := by
  intro h
  unfold step at h
  split at h
  · cases h
  · split at h
    · cases h
    · cases h
    · exact exec_ne_refused _ _ _ ‹_›

/-- Settles O15: no shape of a meaning is a refusal, and a step adds none. -/
theorem nothingIsRefused : Obligations.NothingIsRefused := fun s => ⟨fun i => exec_ne_refused i s, step_ne_refused s⟩

/-! ### A run of the driver -/

theorem invokeInterrupt_next {s t : State} {vector : Nat → Nat} {n : Nat} (h : s.invokeInterrupt vector n = .next t) :
    ∃ u, s.pushPC s.pc = .ok u ∧
      t = { (u.disableInterrupts.jumpTo (vector n)).retire with cycles := u.cycles + 4 } := by
  obtain ⟨u, hpush, ht⟩ := andThen_next h
  cases ht
  exact ⟨u, hpush, rfl⟩

/-- An interrupt entry at an even vector keeps the invariant (60 R520). -/
theorem invokeInterrupt_inv {s t : State} {vector : Nat → Nat} {n : Nat} (hv : vector n % 2 = 0) (hs : s.Inv)
    (h : s.invokeInterrupt vector n = .next t) : t.Inv := by
  obtain ⟨u, hpush, rfl⟩ := invokeInterrupt_next h
  have hu : Within ⟨[], [], [s.sp.toNat, (s.sp - 1).toNat], true⟩ 2 s u := Within.pushPC rfl rfl hpush
  have hok : u.MemoriesOk := hu.memories hs.memoriesOk
  exact State.MemoriesOk.inv_retire (s := { u.disableInterrupts.jumpTo (vector n) with cycles := u.cycles + 4 })
    { hok with } (mod_pcMod_even hv) (Nat.mod_lt _ (Device.pcMod_pos u.dev))

theorem driverStep_inv {vector : Nat → Nat} {event : DriverEvent} {s t : State} (hv : ∀ n, vector n % 2 = 0)
    (hs : s.Inv) (h : driverStep vector event s = .next t) : t.Inv := by
  cases event with
  | instruction => exact stepKeepsInvariant s t hs h
  | interrupt n =>
    rcases driverStep_interrupt_next h with ⟨-, hentry⟩ | ⟨-, rfl⟩
    · exact invokeInterrupt_inv (hv n) hs hentry
    · exact hs

theorem driverStep_ne_refused (vector : Nat → Nat) (event : DriverEvent) (s : State) (x : Refusal) :
    driverStep vector event s ≠ .refused x := by
  cases event with
  | instruction => exact step_ne_refused s x
  | interrupt n =>
    simp only [driverStep]
    split
    · exact andThen_ne_refused fun _ => next_ne_refused _ x
    · exact next_ne_refused s x

/-- What holds of a run's last state: an induction over the events, of which each keeps it. -/
theorem driverRun_keeps {vector : Nat → Nat} {P : State → Prop}
    (hstep : ∀ event s t, P s → driverStep vector event s = .next t → P t) (events : List DriverEvent) {s : State}
    (hs : P s) :
    (∃ t, driverRun vector events s = .ended t ∧ P t) ∨ ∃ t e, driverRun vector events s = .faulted t e ∧ P t := by
  induction events generalizing s with
  | nil => exact .inl ⟨s, rfl, hs⟩
  | cons event rest ih =>
    unfold driverRun
    cases h : driverStep vector event s with
    | next t => exact ih (hstep event s t hs h)
    | fault e => exact .inr ⟨s, e, rfl, hs⟩
    | refused x => exact absurd h (driverStep_ne_refused vector event s x)

/-- A run is stopped by the first event that faults, in the state the events before it end in (60 R508). -/
theorem driverRun_faulted_iff {vector : Nat → Nat} {events : List DriverEvent} {s t : State} {e : Fault} :
    driverRun vector events s = .faulted t e ↔
      ∃ before event after, events = before ++ event :: after ∧
        driverRun vector before s = .ended t ∧ driverStep vector event t = .fault e := by
  induction events generalizing s with
  | nil => simp [driverRun]
  | cons first rest ih =>
    constructor
    · intro h
      unfold driverRun at h
      split at h
      · rename_i u hu
        obtain ⟨before, event, after, rfl, hbefore, hevent⟩ := ih.mp h
        exact ⟨first :: before, event, after, rfl, by rw [driverRun, hu]; exact hbefore, hevent⟩
      · cases h
        exact ⟨[], first, rest, rfl, rfl, ‹_›⟩
      · cases h
    · rintro ⟨before, event, after, hevents, hbefore, hevent⟩
      cases before with
      | nil =>
        cases hevents
        cases hbefore
        rw [driverRun, hevent]
      | cons first' before =>
        cases hevents
        unfold driverRun at hbefore ⊢
        split at hbefore
        · exact ih.mpr ⟨before, event, after, rfl, hbefore, hevent⟩
        · cases hbefore
        · cases hbefore

/-- Settles O14: each event keeps the invariant and none is refused. -/
theorem driverRunKeepsInvariant : Obligations.DriverRunKeepsInvariant := by
  refine ⟨fun vector events s hv hs => ?_, fun _ _ _ _ _ => driverRun_faulted_iff⟩
  rcases driverRun_keeps (P := State.Inv) (fun _ _ _ => driverStep_inv hv) events hs with ⟨t, h, ht⟩ | ⟨t, e, h, ht⟩
  · rw [h]
    exact ht
  · rw [h]
    exact ht

end Sys2Proof.Machine
end

section
/-! PROOFS. Which instruction faults, and how (60 R500 to R505; 44 R455; 42 R311). -/

namespace Sys2Proof.Machine

/-! ### Faults of the stack (20 R76, R77; 43 R381, R382) -/

/-- A pop faults as its data read does. -/
theorem State.pop_error {s : State} {e : Fault} (h : s.pop = .error e) :
    s.dev.segSize ≤ (s.sp + 1).toNat ∧ e = .outOfRange .dataRead (s.sp + 1).toNat :=
  State.memRead_error_iff (s := s.setSp (s.sp + 1)).mp h

theorem State.pushPC_error {s : State} {a : Nat} {e : Fault} (h : s.pushPC a = .error e) :
    (s.dev.segSize ≤ s.sp.toNat ∧ e = .outOfRange .dataWrite s.sp.toNat) ∨
    (s.dev.segSize ≤ (s.sp - 1).toNat ∧ e = .outOfRange .dataWrite (s.sp - 1).toNat) := by
  unfold State.pushPC at h
  simp only at h
  split at h
  · rename_i m hlow
    obtain ⟨u, hu, rfl⟩ := State.push_ok hlow
    have hdev := (State.memWrite_fixed hu).1
    have hhigh := State.push_error h
    rw [State.sp_setSp, State.setSp_dev, hdev] at hhigh
    exact .inr hhigh
  · cases h
    exact .inl (State.push_error ‹_›)

theorem State.popPC_error {s : State} {e : Fault} (h : s.popPC = .error e) :
    ∃ a, s.dev.segSize ≤ a ∧ e = .outOfRange .dataRead a := by
  unfold State.popPC at h
  split at h
  · rename_i v m hhigh
    have hdev : m.dev = s.dev := (Within.pop (fp := ⟨[], [], [], true⟩) rfl hhigh).dev
    split at h
    · cases h
    · cases h
      exact hdev ▸ ⟨_, State.pop_error ‹_›⟩
  · cases h
    exact ⟨_, State.pop_error ‹_›⟩

theorem State.returnFromInterrupt_error {s : State} {e : Fault} (h : s.returnFromInterrupt = .error e) :
    s.popPC = .error e := by
  unfold State.returnFromInterrupt at h
  split at h
  · cases h
  · cases h
    assumption

/-! ### Faults of an effect -/

/-- The faults of an instruction that its device implements. -/
inductive EffectFault (i : Instr) (s : State) : Fault → Prop where
  | unpredictable {m : Mnemonic} (h : overlapOf i = some m) : EffectFault i s (.unpredictable m)
  | unsupplied (h : i.mnemonic ∈ Config.defaultUnimplSet) : EffectFault i s (.unsupplied i.mnemonic)
  | fetch (hi : (skipTest i s).isSome = true) (ha : s.dev.flashBytes ≤ s.nextpc + 1) :
      EffectFault i s (.outOfRange .fetch s.nextpc)
  | dataRead {a : Nat} (hi : (loadOperand i s).isSome = true ∨ (∃ d, i = .pop d) ∨ i = .ret ∨ i = .reti)
      (ha : s.dev.segSize ≤ a) : EffectFault i s (.outOfRange .dataRead a)
  | dataWrite {a : Nat} (hi : a ∈ storesTo i s) (ha : s.dev.segSize ≤ a) :
      EffectFault i s (.outOfRange .dataWrite a)
  | flashRead {a : Nat} (hi : (flashOperand i s).isSome = true) (ha : s.dev.flashBytes ≤ a) :
      EffectFault i s (.outOfRange .flashRead a)

/-- An operand's access faults as a word of 42 R311, or on its own account. -/
theorem unlessOverlap_fault {overlap : Option Mnemonic} {o : Outcome} {e : Fault}
    (h : unlessOverlap overlap o = .fault e) :
    (∃ m, overlap = some m ∧ e = .unpredictable m) ∨ (overlap = none ∧ o = .fault e) := by
  cases overlap with
  | none => exact .inr ⟨rfl, h⟩
  | some m => cases h; exact .inl ⟨m, rfl, rfl⟩

/-- An access whose continuation always completes faults as the access does. -/
theorem andThen_next_fault {α : Type} {r : Except Fault α} {k : α → State} {e : Fault}
    (h : andThen r (fun a => .next (k a)) = .fault e) : r = .error e := by
  rcases andThen_fault h with hr | ⟨_, -, hk⟩
  · exact hr
  · cases hk

theorem skipIf_fault {taken : Bool} {s : State} {e : Fault} (h : skipIf taken s = .fault e) : s.skip = .error e := by
  cases taken with
  | false => cases h
  | true => exact andThen_next_fault h

theorem Effect.fault {i : Instr} {s : State} {o : Outcome} {e : Fault} (he : Effect i s o) (ho : o = .fault e) :
    EffectFault i s e := by
  cases he with
  | compute | jump => cases ho
  | load op =>
    rcases unlessOverlap_fault ho with ⟨m, hm, rfl⟩ | ⟨-, hload⟩
    · exact .unpredictable hm
    · obtain ⟨ha, rfl⟩ := State.memRead_error_iff.mp (andThen_next_fault hload)
      exact .dataRead (.inl (by rw [op]; rfl)) ((loadOperand_within op).2.dev ▸ ha)
  | store op =>
    rcases unlessOverlap_fault ho with ⟨m, hm, rfl⟩ | ⟨-, hstore⟩
    · exact .unpredictable hm
    · obtain ⟨hstores, hu⟩ := storeOperand_within op
      obtain ⟨ha, rfl⟩ := State.memWrite_error_iff.mp (andThen_next_fault hstore)
      exact .dataWrite (by rw [hstores]; exact .head _) (hu.dev ▸ ha)
  | @flash d pa u op =>
    rcases unlessOverlap_fault ho with ⟨m, hm, rfl⟩ | ⟨-, hload⟩
    · exact .unpredictable hm
    · have hread := andThen_next_fault hload
      rcases u.flashByte_cases pa with ⟨-, h⟩ | ⟨ha, h⟩ <;> cases h.symm.trans hread
      exact .flashRead (by rw [op]; rfl) ((flashOperand_within op).2.dev ▸ ha)
  | push hi =>
    obtain ⟨ha, rfl⟩ := State.push_error (andThen_next_fault ho)
    subst hi
    exact .dataWrite (.head _) ha
  | pop hi =>
    obtain ⟨ha, rfl⟩ := State.pop_error (andThen_next_fault ho)
    exact .dataRead (.inr (.inl ⟨_, hi⟩)) ha
  | call hc hsp hstores =>
    rcases State.pushPC_error (andThen_next_fault ho) with ⟨ha, rfl⟩ | ⟨ha, rfl⟩
    · exact .dataWrite (by rw [hstores]; exact .head _) ha
    · exact .dataWrite (by rw [hstores]; exact .tail _ (.head _)) ha
  | ret hi =>
    obtain ⟨a, ha, rfl⟩ := State.popPC_error (andThen_next_fault ho)
    exact .dataRead (.inr (.inr (.inl hi))) ha
  | reti hi =>
    obtain ⟨a, ha, rfl⟩ := State.popPC_error (State.returnFromInterrupt_error (andThen_next_fault ho))
    exact .dataRead (.inr (.inr (.inr hi))) ha
  | branch => rw [branchIf_eq] at ho; cases ho
  | skip op =>
    have hu := skipTest_within op
    obtain ⟨ha, rfl⟩ := State.skip_error (skipIf_fault ho)
    rw [hu.nextpc, hu.dev] at ha
    exact hu.nextpc ▸ .fetch (by rw [op]; rfl) ha
  | unsupplied hm => cases ho; exact .unsupplied hm

/-- An instruction faults because its device leaves it unimplemented, or as its effect does. -/
theorem exec_fault {i : Instr} {s : State} {e : Fault} (h : exec i s = .fault e) :
    (i.mnemonic ∈ s.dev.unimplSet ∧ e = .unimplemented i.mnemonic) ∨ (s.implements i ∧ EffectFault i s e) := by
  obtain ⟨o, hexec, heffect⟩ := exec_effect i s
  exact (execute_fault (hexec.symm.trans h)).imp_right fun ⟨himpl, ho⟩ => ⟨himpl, heffect.fault ho⟩

/-! ### The statements -/

theorem exec_unimplemented {i : Instr} {s : State} (h : i.mnemonic ∈ s.dev.unimplSet) :
    exec i s = .fault (.unimplemented i.mnemonic) := by
  obtain ⟨o, hexec, -⟩ := exec_effect i s
  exact hexec.trans (execute_unimplemented o h)

/-- The six instructions to which the spec gives no meaning (44 R455). -/
theorem mnemonic_mem_defaultUnimplSet_iff (i : Instr) :
    i.mnemonic ∈ Config.defaultUnimplSet ↔
      i = .break_ ∨ i = .sleep ∨ i = .spm ∨ i = .wdr ∨ i = .eijmp ∨ i = .eicall := by
  cases i <;> simp [Instr.mnemonic, Config.defaultUnimplSet]

theorem exec_unsupplied {i : Instr} {s : State} (hi : i.mnemonic ∈ Config.defaultUnimplSet) (h : s.implements i) :
    exec i s = .fault (.unsupplied i.mnemonic) := by
  rcases (mnemonic_mem_defaultUnimplSet_iff i).mp hi with rfl | rfl | rfl | rfl | rfl | rfl <;>
    exact execute_stops _ h

/-- Settles O16: the faults of `EffectFault`, and that of an unimplemented mnemonic. -/
theorem execFaultCatalogue : Obligations.ExecFaultCatalogue := by
  refine ⟨fun i s e h => ?_, fun i s hi himpl => exec_unsupplied hi himpl⟩
  rcases exec_fault h with ⟨hm, rfl⟩ | ⟨himpl, hfault⟩
  · exact ⟨rfl, hm⟩
  · cases hfault with
    | unpredictable hov => exact hov
    | unsupplied hm => exact ⟨rfl, hm, himpl⟩
    | fetch hi ha => exact ⟨hi, rfl, ha⟩
    | dataRead hi ha => exact ⟨hi, ha⟩
    | dataWrite hi ha => exact ⟨hi, ha⟩
    | flashRead hi ha => exact ⟨hi, ha⟩

/-- The device completes none of the six, whether or not it implements them. -/
theorem exec_ne_next_of_default {i : Instr} (hi : i.mnemonic ∈ Config.defaultUnimplSet) (s t : State) :
    exec i s ≠ .next t := by
  by_cases h : i.mnemonic ∈ s.dev.unimplSet
  · rw [exec_unimplemented h]
    nofun
  · rw [exec_unsupplied hi h]
    nofun

/-- An opcode without operand fields is a word of its own. -/
theorem decodeWords_of_full_mask {m : Mnemonic} {w : Word16} (hrow : ⟨m, w, 0xFFFF⟩ ∈ opcodeRows) (h4 : is4 w = false)
    (w1 : Word16) : decodeWords w w1 = some (build m w w1, 2) := by
  rw [decodeWords, decodeFirst_of_and_mask hrow BitVec.and_allOnes, Option.map_some, sizeOfWord, h4]
  rfl

/-- One of the six: the row of its own word, listed in the default `UNIMPL_SET`, which completes on no device. -/
theorem unimplemented_row (s : State) {w : Word16} {i : Instr} (hrow : ⟨i.mnemonic, w, 0xFFFF⟩ ∈ opcodeRows)
    (h4 : is4 w = false) (hbuild : build i.mnemonic w 0 = i) (hi : i.mnemonic ∈ Config.defaultUnimplSet) :
    decodeWords w 0 = some (i, 2) ∧ i.mnemonic ∈ Config.defaultDevice.unimplSet ∧
      (i.mnemonic ∈ s.dev.unimplSet → exec i s = .fault (.unimplemented i.mnemonic)) ∧ ∀ t, exec i s ≠ .next t :=
  ⟨by rw [decodeWords_of_full_mask hrow h4, hbuild], hi, exec_unimplemented, exec_ne_next_of_default hi s⟩

/-- Settles O17: the six rows one by one, and the check that comes before every effect. -/
theorem unimplementedInstructionsFault : Obligations.UnimplementedInstructionsFault := by
  refine fun s => ⟨?_, fun i => exec_unimplemented⟩
  simp only [List.forall_mem_cons, List.not_mem_nil, false_imp_iff, implies_true, and_true]
  exact ⟨unimplemented_row s (by decide) rfl rfl (by decide), unimplemented_row s (by decide) rfl rfl (by decide),
    unimplemented_row s (by decide) rfl rfl (by decide), unimplemented_row s (by decide) rfl rfl (by decide),
    unimplemented_row s (by decide) rfl rfl (by decide), unimplemented_row s (by decide) rfl rfl (by decide)⟩

/-- A word of 42 R311 is a memory access of its own form, stopped before its access. -/
theorem exec_of_overlap {i : Instr} {s : State} {m : Mnemonic} (h : overlapOf i = some m) :
    exec i s = execute i.mnemonic s (.fault (.unpredictable m)) := by
  have stop (o : Outcome) : execute i.mnemonic s (unlessOverlap (overlapOf i) o) =
      execute i.mnemonic s (.fault (.unpredictable m)) := by rw [h]; rfl
  cases i with
  | ldXp | ldMx | ldYp | ldMy | ldZp | ldMz => exact (exec_of_loadOperand rfl).trans (stop _)
  | stXp | stMx | stYp | stMy | stZp | stMz => exact (exec_of_storeOperand rfl).trans (stop _)
  | lpmZp | elpmZp => exact (exec_of_flashOperand rfl).trans (stop _)
  | _ => cases h

/-- Settles O18: the fault comes from the overlap check alone. -/
theorem pointerOverlapFaults : Obligations.PointerOverlapFaults := by
  refine fun i s m => ⟨fun h => ?_, fun ⟨hov, himpl⟩ => ?_⟩
  · rcases exec_fault h with ⟨-, he⟩ | ⟨himpl, hfault⟩
    · cases he
    · cases hfault with
      | unpredictable hov => exact ⟨hov, himpl⟩
  · exact (exec_of_overlap hov).trans (execute_stops _ himpl)

end Sys2Proof.Machine
end

section
/-! PROOFS. 30_encoding.md, the other direction: a word that fits a row is the row's format laid out with the fields
extracted from the word, so a decoded instruction encodes to the bytes it came from. -/

namespace Sys2Proof

open Sys2Proof.Machine Sys2Proof.Laws

/-! ### The opcode table (30 R140) -/

theorem decodeFirst_of_no_fit {w : Word16} (h : ∀ row ∈ opcodeRows, row.fits w = false) : decodeFirst w = none := by
  have hnone : opcodeRows.find? (·.fits w) = none :=
    List.find?_eq_none.mpr fun row hrow => by simp [h row hrow]
  rw [decodeFirst, hnone, Option.map_none]

/-- Settles O7: at most one row fits, and the search finds it. -/
theorem opcodeRowsAreDisjoint : Obligations.OpcodeRowsAreDisjoint :=
  ⟨rfl, fun _ => ⟨fun _ hr₁ _ hr₂ => OpcodeRow.eq_of_fits hr₁ hr₂, fun _ => decodeFirst_of_fits, decodeFirst_of_no_fit⟩⟩

set_option maxRecDepth 4000 in
theorem opcodeRows_pairwise_mnemonic_ne : opcodeRows.Pairwise fun r₁ r₂ => r₁.mnemonic ≠ r₂.mnemonic := by decide

/-- A mnemonic has one row. -/
theorem OpcodeRow.eq_of_mnemonic_eq {r₁ r₂ : OpcodeRow} (hr₁ : r₁ ∈ opcodeRows) (hr₂ : r₂ ∈ opcodeRows)
    (h : r₁.mnemonic = r₂.mnemonic) : r₁ = r₂ := by
  have hsymm : Std.Symm fun r₁ r₂ : OpcodeRow => r₁.mnemonic ≠ r₂.mnemonic := ⟨fun _ _ => Ne.symm⟩
  by_contra hne
  exact opcodeRows_pairwise_mnemonic_ne.forall hr₁ hr₂ hne h

/-- A word that decodes as a mnemonic has the opcode bits of the mnemonic's row. -/
theorem and_mask_of_decodeFirst {m : Mnemonic} {w p mask : Word16} (hrow : ⟨m, p, mask⟩ ∈ opcodeRows)
    (h : decodeFirst w = some m) : w &&& mask = p := by
  obtain ⟨row, hmem, hfits, hm⟩ := exists_fits_of_decodeFirst h
  have heq : row = ⟨m, p, mask⟩ := OpcodeRow.eq_of_mnemonic_eq hmem hrow hm
  rw [heq] at hfits
  exact OpcodeRow.fits_iff.mp hfits

/-! ### A word is its format with its own fields (30 R121 to R137) -/

/-- The bits of a word that its mask fixes are those of the pattern. -/
theorem extract_of_and_mask {w p mask : Word16} (h : w &&& mask = p) (start len : Nat)
    (hmask : mask.extractLsb' start len = BitVec.allOnes len) : w.extractLsb' start len = p.extractLsb' start len := by
  rw [← h, BitVec.extractLsb'_and, hmask, BitVec.and_allOnes]

theorem encRdRr_fields {o : BitVec 6} {w : Word16} (h : w &&& 0xFC00 = encRdRr o 0 0) :
    encRdRr o (fieldD5 w) (fieldR5 w) = w := by
  have ho : w.extractLsb' 10 6 = o := by
    simpa [-Nat.reduceAdd, encRdRr, BitVec.extractLsb'_append_eq_ite] using extract_of_and_mask h 10 6 rfl
  rw [encRdRr, ← ho]
  simp [-Nat.reduceAdd, fieldD5, fieldR5, BitVec.extractLsb'_append_eq_ite,
    BitVec.extractLsb'_append_extractLsb'_eq_extractLsb']

theorem encRdhK8_fields {o : BitVec 4} {w : Word16} (h : w &&& 0xF000 = encRdhK8 o 0 0) :
    encRdhK8 o (fieldD4 w) (fieldK8 w) = w := by
  have ho : w.extractLsb' 12 4 = o := by
    simpa [-Nat.reduceAdd, encRdhK8, BitVec.extractLsb'_append_eq_ite] using extract_of_and_mask h 12 4 rfl
  rw [encRdhK8, ← ho]
  simp [-Nat.reduceAdd, fieldD4, fieldK8, BitVec.extractLsb'_append_eq_ite,
    BitVec.extractLsb'_append_extractLsb'_eq_extractLsb']

theorem encRdlK6_fields {o : BitVec 1} {w : Word16} (h : w &&& 0xFF00 = encRdlK6 o 0 0) :
    encRdlK6 o (fieldD2 w) (fieldK6 w) = w := by
  have htop : w.extractLsb' 9 7 = 0b1001011#7 := by
    simpa [-Nat.reduceAdd, encRdlK6, BitVec.extractLsb'_append_eq_ite] using extract_of_and_mask h 9 7 rfl
  have ho : w.extractLsb' 8 1 = o := by
    simpa [-Nat.reduceAdd, encRdlK6, BitVec.extractLsb'_append_eq_ite] using extract_of_and_mask h 8 1 rfl
  rw [encRdlK6, ← htop, ← ho]
  simp [-Nat.reduceAdd, fieldD2, fieldK6, BitVec.extractLsb'_append_eq_ite,
    BitVec.extractLsb'_append_extractLsb'_eq_extractLsb']

theorem encRd_fields {o : BitVec 4} {w : Word16} (h : w &&& 0xFE0F = encRd 0 o) :
    encRd (fieldD5 w) o = w := by
  have htop : w.extractLsb' 9 7 = 0b1001010#7 := by
    simpa [-Nat.reduceAdd, encRd, BitVec.extractLsb'_append_eq_ite] using extract_of_and_mask h 9 7 rfl
  have ho : w.extractLsb' 0 4 = o := by
    simpa [-Nat.reduceAdd, encRd, BitVec.extractLsb'_append_eq_ite] using extract_of_and_mask h 0 4 rfl
  rw [encRd, ← htop, ← ho]
  simp [-Nat.reduceAdd, fieldD5, BitVec.extractLsb'_append_extractLsb'_eq_extractLsb']

theorem encRdP_fields {o : BitVec 1} {m : BitVec 4} {w : Word16} (h : w &&& 0xFE0F = encRdP o 0 m) :
    encRdP o (fieldD5 w) m = w := by
  have htop : w.extractLsb' 10 6 = 0b100100#6 := by
    simpa [-Nat.reduceAdd, encRdP, BitVec.extractLsb'_append_eq_ite] using extract_of_and_mask h 10 6 rfl
  have ho : w.extractLsb' 9 1 = o := by
    simpa [-Nat.reduceAdd, encRdP, BitVec.extractLsb'_append_eq_ite] using extract_of_and_mask h 9 1 rfl
  have hm : w.extractLsb' 0 4 = m := by
    simpa [-Nat.reduceAdd, encRdP, BitVec.extractLsb'_append_eq_ite] using extract_of_and_mask h 0 4 rfl
  rw [encRdP, ← htop, ← ho, ← hm]
  simp [-Nat.reduceAdd, fieldD5, BitVec.extractLsb'_append_extractLsb'_eq_extractLsb']

theorem encRdhRrh_fields {o : BitVec 8} {w : Word16} (h : w &&& 0xFF00 = encRdhRrh o 0 0) :
    encRdhRrh o (fieldD4 w) (fieldR4 w) = w := by
  have ho : w.extractLsb' 8 8 = o := by
    simpa [-Nat.reduceAdd, encRdhRrh, BitVec.extractLsb'_append_eq_ite] using extract_of_and_mask h 8 8 rfl
  rw [encRdhRrh, ← ho]
  simp [-Nat.reduceAdd, fieldD4, fieldR4, BitVec.extractLsb'_append_extractLsb'_eq_extractLsb']

theorem encRdmRrm_fields {u v : BitVec 1} {w : Word16} (h : w &&& 0xFF88 = encRdmRrm u v 0 0) :
    encRdmRrm u v (fieldD3 w) (fieldB3 w) = w := by
  have htop : w.extractLsb' 8 8 = 0b00000011#8 := by
    simpa [-Nat.reduceAdd, encRdmRrm, BitVec.extractLsb'_append_eq_ite] using extract_of_and_mask h 8 8 rfl
  have hu : w.extractLsb' 7 1 = u := by
    simpa [-Nat.reduceAdd, encRdmRrm, BitVec.extractLsb'_append_eq_ite] using extract_of_and_mask h 7 1 rfl
  have hv : w.extractLsb' 3 1 = v := by
    simpa [-Nat.reduceAdd, encRdmRrm, BitVec.extractLsb'_append_eq_ite] using extract_of_and_mask h 3 1 rfl
  rw [encRdmRrm, ← htop, ← hu, ← hv]
  simp [-Nat.reduceAdd, fieldD3, fieldB3, BitVec.extractLsb'_append_extractLsb'_eq_extractLsb']

theorem encS3_fields {o : BitVec 1} {w : Word16} (h : w &&& 0xFF8F = encS3 o 0) :
    encS3 o (fieldD3 w) = w := by
  have htop : w.extractLsb' 8 8 = 0b10010100#8 := by
    simpa [-Nat.reduceAdd, encS3, BitVec.extractLsb'_append_eq_ite] using extract_of_and_mask h 8 8 rfl
  have ho : w.extractLsb' 7 1 = o := by
    simpa [-Nat.reduceAdd, encS3, BitVec.extractLsb'_append_eq_ite] using extract_of_and_mask h 7 1 rfl
  have hlow : w.extractLsb' 0 4 = 0b1000#4 := by
    simpa [-Nat.reduceAdd, encS3, BitVec.extractLsb'_append_eq_ite] using extract_of_and_mask h 0 4 rfl
  rw [encS3, ← htop, ← ho, ← hlow]
  simp [-Nat.reduceAdd, fieldD3, BitVec.extractLsb'_append_extractLsb'_eq_extractLsb']

theorem encRdB3_fields {o : BitVec 2} {w : Word16} (h : w &&& 0xFE08 = encRdB3 o 0 0) :
    encRdB3 o (fieldD5 w) (fieldB3 w) = w := by
  have htop : w.extractLsb' 11 5 = 0b11111#5 := by
    simpa [-Nat.reduceAdd, encRdB3, BitVec.extractLsb'_append_eq_ite] using extract_of_and_mask h 11 5 rfl
  have ho : w.extractLsb' 9 2 = o := by
    simpa [-Nat.reduceAdd, encRdB3, BitVec.extractLsb'_append_eq_ite] using extract_of_and_mask h 9 2 rfl
  have hzero : w.extractLsb' 3 1 = 0b0#1 := by
    simpa [-Nat.reduceAdd, encRdB3, BitVec.extractLsb'_append_eq_ite] using extract_of_and_mask h 3 1 rfl
  rw [encRdB3, ← htop, ← ho, ← hzero]
  simp [-Nat.reduceAdd, fieldD5, fieldB3, BitVec.extractLsb'_append_extractLsb'_eq_extractLsb']

theorem encA5B3_fields {o : BitVec 2} {w : Word16} (h : w &&& 0xFF00 = encA5B3 o 0 0) :
    encA5B3 o (fieldA5 w) (fieldB3 w) = w := by
  have htop : w.extractLsb' 10 6 = 0b100110#6 := by
    simpa [-Nat.reduceAdd, encA5B3, BitVec.extractLsb'_append_eq_ite] using extract_of_and_mask h 10 6 rfl
  have ho : w.extractLsb' 8 2 = o := by
    simpa [-Nat.reduceAdd, encA5B3, BitVec.extractLsb'_append_eq_ite] using extract_of_and_mask h 8 2 rfl
  rw [encA5B3, ← htop, ← ho]
  simp [-Nat.reduceAdd, fieldA5, fieldB3, BitVec.extractLsb'_append_extractLsb'_eq_extractLsb']

theorem encRdA6_fields {o : BitVec 1} {w : Word16} (h : w &&& 0xF800 = encRdA6 o 0 0) :
    encRdA6 o (fieldD5 w) (fieldA6 w) = w := by
  have htop : w.extractLsb' 12 4 = 0b1011#4 := by
    simpa [-Nat.reduceAdd, encRdA6, BitVec.extractLsb'_append_eq_ite] using extract_of_and_mask h 12 4 rfl
  have ho : w.extractLsb' 11 1 = o := by
    simpa [-Nat.reduceAdd, encRdA6, BitVec.extractLsb'_append_eq_ite] using extract_of_and_mask h 11 1 rfl
  rw [encRdA6, ← htop, ← ho]
  simp [-Nat.reduceAdd, fieldD5, fieldA6, BitVec.extractLsb'_append_eq_ite,
    BitVec.extractLsb'_append_extractLsb'_eq_extractLsb']

theorem encRdPq_fields {o p : BitVec 1} {w : Word16} (h : w &&& 0xD208 = encRdPq o p 0 0) :
    encRdPq o p (fieldD5 w) (fieldQ6 w) = w := by
  have htop : w.extractLsb' 14 2 = 0b10#2 := by
    simpa [-Nat.reduceAdd, encRdPq, BitVec.extractLsb'_append_eq_ite] using extract_of_and_mask h 14 2 rfl
  have hzero : w.extractLsb' 12 1 = 0b0#1 := by
    simpa [-Nat.reduceAdd, encRdPq, BitVec.extractLsb'_append_eq_ite] using extract_of_and_mask h 12 1 rfl
  have ho : w.extractLsb' 9 1 = o := by
    simpa [-Nat.reduceAdd, encRdPq, BitVec.extractLsb'_append_eq_ite] using extract_of_and_mask h 9 1 rfl
  have hp : w.extractLsb' 3 1 = p := by
    simpa [-Nat.reduceAdd, encRdPq, BitVec.extractLsb'_append_eq_ite] using extract_of_and_mask h 3 1 rfl
  rw [encRdPq, ← htop, ← hzero, ← ho, ← hp]
  simp [-Nat.reduceAdd, fieldD5, fieldQ6, BitVec.extractLsb'_append_eq_ite,
    BitVec.extractLsb'_append_extractLsb'_eq_extractLsb']

theorem encK12_fields {o : BitVec 1} {w : Word16} (h : w &&& 0xF000 = encK12 o 0) :
    encK12 o (fieldK12 w) = w := by
  have htop : w.extractLsb' 13 3 = 0b110#3 := by
    simpa [-Nat.reduceAdd, encK12, BitVec.extractLsb'_append_eq_ite] using extract_of_and_mask h 13 3 rfl
  have ho : w.extractLsb' 12 1 = o := by
    simpa [-Nat.reduceAdd, encK12, BitVec.extractLsb'_append_eq_ite] using extract_of_and_mask h 12 1 rfl
  rw [encK12, ← htop, ← ho]
  simp [-Nat.reduceAdd, fieldK12, BitVec.extractLsb'_append_extractLsb'_eq_extractLsb']

theorem encK22_fields {o : BitVec 1} {w w1 : Word16} (h : w &&& 0xFE0E = encK22 o 0) :
    encK22 o (fieldK22 w w1) = w := by
  have htop : w.extractLsb' 9 7 = 0b1001010#7 := by
    simpa [-Nat.reduceAdd, encK22, BitVec.extractLsb'_append_eq_ite] using extract_of_and_mask h 9 7 rfl
  have hmid : w.extractLsb' 2 2 = 0b11#2 := by
    simpa [-Nat.reduceAdd, encK22, BitVec.extractLsb'_append_eq_ite] using extract_of_and_mask h 2 2 rfl
  have ho : w.extractLsb' 1 1 = o := by
    simpa [-Nat.reduceAdd, encK22, BitVec.extractLsb'_append_eq_ite] using extract_of_and_mask h 1 1 rfl
  rw [encK22, ← htop, ← hmid, ← ho]
  simp [-Nat.reduceAdd, fieldK22, BitVec.extractLsb'_append_eq_ite,
    BitVec.extractLsb'_append_extractLsb'_eq_extractLsb']

theorem encS3K7_fields {o : BitVec 1} {w : Word16} (h : w &&& 0xFC00 = encS3K7 o 0 0) :
    encS3K7 o (fieldK7 w) (fieldB3 w) = w := by
  have htop : w.extractLsb' 11 5 = 0b11110#5 := by
    simpa [-Nat.reduceAdd, encS3K7, BitVec.extractLsb'_append_eq_ite] using extract_of_and_mask h 11 5 rfl
  have ho : w.extractLsb' 10 1 = o := by
    simpa [-Nat.reduceAdd, encS3K7, BitVec.extractLsb'_append_eq_ite] using extract_of_and_mask h 10 1 rfl
  rw [encS3K7, ← htop, ← ho]
  simp [-Nat.reduceAdd, fieldK7, fieldB3, BitVec.extractLsb'_append_extractLsb'_eq_extractLsb']

/-- The second word of JMP and CALL is the low half of the address. -/
theorem fieldK22_low (w w1 : Word16) : (fieldK22 w w1).extractLsb' 0 16 = w1 := by
  simp [-Nat.reduceAdd, fieldK22, BitVec.extractLsb'_append_eq_ite]

/-! ### A decoded instruction has the words it came from (30 R162) -/

theorem encode_build_one {m : Mnemonic} {w : Word16} (h : decodeFirst w = some m) (hm : ¬ m.HasSecondWord)
    (w1 : Word16) : encode (build m w w1) = [w] := by
  have hrow {p mask : Word16} (hmem : ⟨m, p, mask⟩ ∈ opcodeRows) : w &&& mask = p := and_mask_of_decodeFirst hmem h
  cases m with
  | add | adc | sub | sbc | and | or | eor | cp | cpc | mul | mov | cpse =>
    exact congrArg (fun w => [w]) (encRdRr_fields (hrow (by decide)))
  | subi | sbci | andi | ori | cpi | ldi => exact congrArg (fun w => [w]) (encRdhK8_fields (hrow (by decide)))
  | adiw | sbiw => exact congrArg (fun w => [w]) (encRdlK6_fields (hrow (by decide)))
  | com | neg | inc | dec | lsr | asr | ror | swap => exact congrArg (fun w => [w]) (encRd_fields (hrow (by decide)))
  | ldX | ldXp | ldMx | ldYp | ldMy | ldZp | ldMz | lpmZ | lpmZp | elpmZ | elpmZp | pop | stX | stXp | stMx | stYp
  | stMy | stZp | stMz | push => exact congrArg (fun w => [w]) (encRdP_fields (hrow (by decide)))
  | muls | movw => exact congrArg (fun w => [w]) (encRdhRrh_fields (hrow (by decide)))
  | mulsu | fmul | fmuls | fmulsu => exact congrArg (fun w => [w]) (encRdmRrm_fields (hrow (by decide)))
  | bset | bclr => exact congrArg (fun w => [w]) (encS3_fields (hrow (by decide)))
  | bst | bld | sbrc | sbrs => exact congrArg (fun w => [w]) (encRdB3_fields (hrow (by decide)))
  | sbi | cbi | sbic | sbis => exact congrArg (fun w => [w]) (encA5B3_fields (hrow (by decide)))
  | in_ | out => exact congrArg (fun w => [w]) (encRdA6_fields (hrow (by decide)))
  | lddY | lddZ | stdY | stdZ => exact congrArg (fun w => [w]) (encRdPq_fields (hrow (by decide)))
  | rjmp | rcall => exact congrArg (fun w => [w]) (encK12_fields (hrow (by decide)))
  | brbs | brbc => exact congrArg (fun w => [w]) (encS3K7_fields (hrow (by decide)))
  | lpm | elpm | spm | ijmp | eijmp | icall | eicall | ret | reti | nop | sleep | wdr | break_ =>
    exact congrArg (fun w => [w]) ((hrow (mask := 0xFFFF) (by decide)).symm.trans BitVec.and_allOnes)
  | jmp | call | lds | sts => exact absurd (by decide) hm

theorem encode_build_two {m : Mnemonic} {w : Word16} (h : decodeFirst w = some m) (hm : m.HasSecondWord)
    (w1 : Word16) : encode (build m w w1) = [w, w1] := by
  have hrow {p mask : Word16} (hmem : ⟨m, p, mask⟩ ∈ opcodeRows) : w &&& mask = p := and_mask_of_decodeFirst hmem h
  rcases hm with rfl | rfl | rfl | rfl
  · exact congrArg₂ (fun w w1 => [w, w1]) (encK22_fields (hrow (by decide))) (fieldK22_low w w1)
  · exact congrArg₂ (fun w w1 => [w, w1]) (encK22_fields (hrow (by decide))) (fieldK22_low w w1)
  · exact congrArg (fun w => [w, w1]) (encRdP_fields (hrow (by decide)))
  · exact congrArg (fun w => [w, w1]) (encRdP_fields (hrow (by decide)))

theorem wordBytes_append (b₀ b₁ : Byte) : wordBytes (b₁ ++ b₀) = [b₀, b₁] := by
  simp [-Nat.reduceAdd, wordBytes, BitVec.extractLsb'_append_eq_ite]

theorem wellFormed_build (m : Mnemonic) (w0 w1 : Word16) : (build m w0 w1).wellFormed = true := by cases m <;> rfl

/-- What a decoded instruction came from: one word, or two words for the four of 30 R100. -/
theorem decode_ok {bytes rest : List Byte} {i : Instr} (h : decode bytes = .ok (i, rest)) :
    ∃ w0 w1 m, decodeFirst w0 = some m ∧ i = build m w0 w1 ∧
      ((is4 w0 = false ∧ w1 = 0 ∧ bytes = wordBytes w0 ++ rest) ∨
       (is4 w0 = true ∧ bytes = wordBytes w0 ++ (wordBytes w1 ++ rest))) := by
  unfold decode at h
  split at h
  · rename_i b0 b1 tail
    simp only at h
    split at h
    · cases h
    · rename_i m hm
      split at h
      · rename_i h4
        split at h
        · rename_i b2 b3 tail'
          cases h
          exact ⟨_, _, m, hm, rfl, .inr ⟨h4, by simp only [wordBytes_append]; rfl⟩⟩
        · cases h
      · rename_i h4
        cases h
        exact ⟨_, _, m, hm, rfl, .inl ⟨Bool.eq_false_of_not_eq_true h4, rfl, by simp only [wordBytes_append]; rfl⟩⟩
  · cases h

/-- Settles O6: the words of the instruction are those it was decoded from. -/
theorem decodedInstructionEncodes : Obligations.DecodedInstructionEncodes := by
  intro bytes i rest h
  obtain ⟨w0, w1, m, hm, rfl, ⟨h4, -, rfl⟩ | ⟨h4, rfl⟩⟩ := decode_ok h <;> refine ⟨wellFormed_build m w0 w1, ?_⟩
  · have hshort : ¬ m.HasSecondWord := fun hlong => by simp [(is4_iff_of_decodeFirst hm).mpr hlong] at h4
    rw [encodeBytes, encode_build_one hm hshort, List.flatMap_singleton]
  · rw [encodeBytes, encode_build_two hm ((is4_iff_of_decodeFirst hm).mp h4)]
    simp

/-! ### Assembler spellings (30 R172) -/

/-- The complement of a byte is what is missing to `0xFF` (40 R240). -/
theorem not_eq_ones_sub (k : Byte) : ~~~k = 0xFF - k := by bv_omega

/-- Every spelling executes as its expansion: most by definition, CLR for `a ^ a` is 0, CBR for `~K` is `0xFF - K`, LSL and
ROL as a byte added to itself. -/
theorem exec_expansion (i : Instr) (s : State) : exec i s = exec (expansion i) s := by
  cases i with
  | clr d =>
    exact congrArg (fun r => execute .eor s (.next (s.setAlu (gpr d) (logic8 r s.flags)))) BitVec.xor_self.symm
  | cbr d k =>
    exact congrArg (fun c => execute .andi s (.next (s.setAlu (hgpr d) (logic8 (s.reg (hgpr d) &&& c) s.flags))))
      (not_eq_ones_sub k)
  | lsl d => exact congrArg (fun out => execute .add s (.next (s.setAlu (gpr d) out))) (shiftLeft8_eq_add8 ..)
  | rol d => exact congrArg (fun out => execute .adc s (.next (s.setAlu (gpr d) out))) (shiftLeft8_eq_add8 ..)
  | _ => rfl

/-- Settles O10: the words, the decoding and the effect of a spelling are those of its expansion. -/
theorem aliasesAreTheirExpansions : Obligations.AliasesAreTheirExpansions := fun i s =>
  ⟨(encode_expansion i).symm, by simpa using decode_encodeBytes i [], exec_expansion i s,
    fun h => expansion_of_wellFormed (by rw [Instr.wellFormed, h]; rfl), isAlias_expansion i⟩

/-- Settles O4: each word is one of the spec's examples, run through the table. -/
theorem specWordsDecode : Obligations.SpecWordsDecode := by
  unfold Obligations.SpecWordsDecode
  decide

end Sys2Proof
end

section
/-! PROOFS. 30_encoding.md R104 to R109: the decision tree against the opcode table. A walk's path fixes some bits of the
word; a check over the tree, run once, compares these bits at each leaf with the rows of the table. -/

namespace Sys2Proof.Machine

/-! ### A walk by the values of its fields (30 R105, R107) -/

def TreeNode.leftBit : TreeNode → Nat
  | .dense leftBit _ _ => leftBit
  | .sparse leftBit _ _ _ => leftBit

def TreeNode.mask : TreeNode → Nat
  | .dense _ mask _ => mask
  | .sparse _ mask _ _ => mask

/-- The child of a field value. -/
def TreeNode.childAt (value : Nat) : TreeNode → WalkState
  | .dense _ _ children => children.getD value .err
  | .sparse _ _ entries default => sparseChild entries default value

theorem TreeNode.child_eq (node : TreeNode) (w : Word16) :
    node.child w = node.childAt ((w.toNat >>> node.leftBit) &&& node.mask) := by
  cases node <;> rfl

/-- The answer of a walk that stands here. -/
def WalkState.answer : WalkState → Option Mnemonic
  | .ok m => some m
  | .move _ => none
  | .err => none

theorem treeDecode_eq (w : Word16) : treeDecode w = (walk 5 (.move .root0) w).answer := by
  unfold treeDecode
  split <;> rename_i h <;> rw [h] <;> rfl

theorem walk_ok (n : Nat) (m : Mnemonic) (w : Word16) : walk n (.ok m) w = .ok m := by
  induction n with
  | zero => rfl
  | succ n ih => exact ih

theorem walk_err (n : Nat) (w : Word16) : walk n .err w = .err := by
  induction n with
  | zero => rfl
  | succ n ih => exact ih

/-! ### The check -/

/-- The bits that a node's field adds to those fixed under a mask. -/
def TreeNode.fix (node : TreeNode) (fixed : Word16) (value : Nat) : Word16 :=
  fixed ||| BitVec.ofNat 16 (value <<< node.leftBit)

/-- The rows that a word can fit when its bits under `mask` are `pattern`. -/
def compatibleRows (mask pattern : Word16) (rows : List OpcodeRow) : List OpcodeRow :=
  rows.filter fun row => pattern &&& row.mask == row.pattern &&& mask

/-- The tree below `st` answers what the table answers, for the words whose bits under `mask` are `pattern` and which can
fit `rows` alone: at a leaf with a mnemonic, these bits put the word into a row of that mnemonic; at an error leaf no row
is left; at a node, so it is for every value of its field. -/
def agrees (n : Nat) (st : WalkState) (mask pattern : Word16) (rows : List OpcodeRow) : Bool :=
  match n, st with
  | _, .ok m => rows.any fun row =>
      row.mnemonic == m && mask &&& row.mask == row.mask && pattern &&& row.mask == row.pattern
  | _, .err => rows.isEmpty
  | 0, .move _ => false
  | k + 1, .move id =>
    let node := treeNode id
    (List.range (node.mask + 1)).all fun value =>
      agrees k (node.childAt value) (node.fix mask node.mask) (node.fix pattern value)
        (compatibleRows (node.fix mask node.mask) (node.fix pattern value) rows)

/-- A word whose field has a value has the value's bits at the field's place. -/
theorem and_field_mask (w : Word16) (leftBit mask : Nat) :
    w &&& BitVec.ofNat 16 (mask <<< leftBit) = BitVec.ofNat 16 (((w.toNat >>> leftBit) &&& mask) <<< leftBit) := by
  refine BitVec.eq_of_getLsbD_eq fun i hi => ?_
  simp only [BitVec.getLsbD_and, BitVec.getLsbD_ofNat, hi, decide_true, Bool.true_and, Nat.testBit_shiftLeft,
    Nat.testBit_and, Nat.testBit_shiftRight, BitVec.testBit_toNat]
  by_cases hle : leftBit ≤ i
  · simp [hle]
  · simp [hle]

/-- A step down the tree fixes the bits of the field. -/
theorem TreeNode.and_fix {node : TreeNode} {mask pattern w : Word16} (hw : w &&& mask = pattern) :
    w &&& node.fix mask node.mask = node.fix pattern ((w.toNat >>> node.leftBit) &&& node.mask) := by
  rw [TreeNode.fix, BitVec.and_or_distrib_left, hw, and_field_mask, TreeNode.fix]

/-- At a leaf with a mnemonic the fixed bits are those of a row of that mnemonic. -/
theorem decodeFirst_of_agrees_ok {n : Nat} {m : Mnemonic} {mask pattern w : Word16} {rows : List OpcodeRow}
    (h : agrees n (.ok m) mask pattern rows = true) (hw : w &&& mask = pattern)
    (hsub : ∀ row ∈ rows, row ∈ opcodeRows) : decodeFirst w = some m := by
  have hany : ∃ row ∈ rows, (row.mnemonic = m ∧ mask &&& row.mask = row.mask) ∧ pattern &&& row.mask = row.pattern := by
    cases n <;> simpa [agrees] using h
  obtain ⟨row, hrow, ⟨rfl, hmask⟩, hpattern⟩ := hany
  exact decodeFirst_of_fits (hsub row hrow) (OpcodeRow.fits_iff.mpr (and_test_of_fits hw hmask hpattern))

/-- At an error leaf no row is left. -/
theorem decodeFirst_of_agrees_err {n : Nat} {mask pattern w : Word16} {rows : List OpcodeRow}
    (h : agrees n .err mask pattern rows = true) (hfits : ∀ row ∈ opcodeRows, row.fits w = true → row ∈ rows) :
    decodeFirst w = none := by
  have hnil : rows = [] := by cases n <;> simpa [agrees] using h
  refine decodeFirst_of_no_fit fun row hrow => Bool.eq_false_of_not_eq_true fun hfit => ?_
  simpa [hnil] using hfits row hrow hfit

/-- The check is sound: along the path of a word it keeps every row that the word fits. -/
theorem answer_walk_of_agrees {n : Nat} {st : WalkState} {mask pattern w : Word16} {rows : List OpcodeRow}
    (h : agrees n st mask pattern rows = true) (hw : w &&& mask = pattern) (hsub : ∀ row ∈ rows, row ∈ opcodeRows)
    (hfits : ∀ row ∈ opcodeRows, row.fits w = true → row ∈ rows) : (walk n st w).answer = decodeFirst w := by
  induction n generalizing st mask pattern rows with
  | zero =>
    cases st with
    | move id => cases h
    | ok m => exact (decodeFirst_of_agrees_ok h hw hsub).symm
    | err => exact (decodeFirst_of_agrees_err h hfits).symm
  | succ k ih =>
    cases st with
    | move id =>
      have hfix := TreeNode.and_fix (node := treeNode id) hw
      have hvalue : (w.toNat >>> (treeNode id).leftBit) &&& (treeNode id).mask ∈ List.range ((treeNode id).mask + 1) :=
        List.mem_range.mpr (Nat.lt_succ_of_le Nat.and_le_right)
      rw [walk, WalkState.advance, TreeNode.child_eq]
      refine ih (List.all_eq_true.mp h _ hvalue) hfix (fun row hrow => hsub row (List.mem_filter.mp hrow).1) ?_
      intro row hrow hfit
      refine List.mem_filter.mpr ⟨hfits row hrow hfit, ?_⟩
      exact beq_iff_eq.mpr (and_mask_agree hfix (OpcodeRow.fits_iff.mp hfit))
    | ok m => rw [walk_ok, decodeFirst_of_agrees_ok h hw hsub]; rfl
    | err => rw [walk_err, decodeFirst_of_agrees_err h hfits]; rfl

set_option maxRecDepth 4000 in
theorem agrees_root : agrees 5 (.move .root0) 0 0 opcodeRows = true := by decide

/-- Settles O8: the check succeeds at the root, where no bit is fixed and every row is possible. -/
theorem decisionTreeDecodesTheTable : Obligations.DecisionTreeDecodesTheTable := fun w =>
  (treeDecode_eq w).trans (answer_walk_of_agrees agrees_root BitVec.and_zero (fun _ => id) fun _ hrow _ => hrow)

end Sys2Proof.Machine
end

section
/-! PROOFS. 10_state.md: the fetch of a step and its faults (10 R33, 60 R507), and the state after reset (10 section
7). -/

namespace Sys2Proof.Machine

/-! ### Fetch (10 R33, 60 R507) -/

/-- The fetch of a two-word instruction reads the word after `pc` too. -/
theorem State.fetchInstr_twoWords {s : State} {w w1 : Word16} {m : Mnemonic} (hword : s.flash16 s.pc = .ok w)
    (hm : decodeFirst w = some m) (h4 : is4 w = true) (hnext : s.flash16 (s.pc + 2) = .ok w1) :
    s.fetchInstr = .ok (build m w w1, 4) := by
  simp [State.fetchInstr, hword, hm, h4, hnext]

theorem step_of_fetch_error {s : State} {e : Fault} (h : s.fetchInstr = .error e) : step s = .fault e := by
  simp only [step, h]

theorem step_of_exec_fault {s : State} {i : Instr} {size : Nat} {e : Fault} (hfetch : s.fetchInstr = .ok (i, size))
    (hexec : exec i (s.enter size) = .fault e) : step s = .fault e := by
  simp only [step, hfetch, hexec]

/-- Settles O2: the fetch stops at the first of its three faults. -/
theorem fetchFaultsInOrder : Obligations.FetchFaultsInOrder := by
  refine fun s => ⟨fun hout => ?_, fun w0 hin hw0 => ⟨fun hnone => ?_, fun hsome h4 hout => ?_⟩⟩
  · exact step_of_fetch_error (by simp [State.fetchInstr, State.flash16_outside hout])
  · exact step_of_fetch_error (by simp [State.fetchInstr, State.flash16_inside hin, ← hw0, hnone])
  · obtain ⟨m, hm⟩ := Option.ne_none_iff_exists'.mp hsome
    exact step_of_fetch_error (by
      simp [State.fetchInstr, State.flash16_inside hin, ← hw0, hm, h4, State.flash16_outside (a := s.pc + 2) hout])

/-- Four bytes from `pc` on that decode are what the fetch reads, where they lie in program memory. -/
theorem fetchInstr_of_decode {s : State} {i : Instr} {rest : List Byte}
    (h : decode [s.flash.read s.pc, s.flash.read (s.pc + 1), s.flash.read (s.pc + 2), s.flash.read (s.pc + 3)]
      = .ok (i, rest)) (hin : s.pc + (4 - rest.length) ≤ s.dev.flashBytes) :
    i.wellFormed = true ∧ s.fetchInstr = .ok (i, 4 - rest.length) := by
  simp only [decode] at h
  split at h
  · cases h
  · rename_i m hm
    split at h
    · rename_i h4
      cases h
      have hin : s.pc + 4 ≤ s.dev.flashBytes := hin
      have hsecond : s.flash16 (s.pc + 2) = .ok (s.flash.read (s.pc + 3) ++ s.flash.read (s.pc + 2)) :=
        State.flash16_inside hin
      have hfirst : s.flash16 s.pc = .ok (s.flash.read (s.pc + 1) ++ s.flash.read s.pc) :=
        State.flash16_inside (by omega)
      exact ⟨wellFormed_build .., State.fetchInstr_twoWords hfirst hm h4 hsecond⟩
    · rename_i h4
      cases h
      exact ⟨wellFormed_build .., State.fetchInstr_oneWord (State.flash16_inside hin) hm
        (Bool.eq_false_of_not_eq_true h4)⟩

/-- Settles O1: the fetch reads the instruction that the bytes decode to. -/
theorem stepRunsDecodedInstruction : Obligations.StepRunsDecodedInstruction := by
  intro s i rest hdecode hin
  obtain ⟨hwf, hfetch⟩ := fetchInstr_of_decode hdecode hin
  refine ⟨hwf, ?_⟩
  change step s = match exec i (s.enter (4 - rest.length)) with
    | .next t => .next { t with pc := t.nextpc }
    | .fault e => .fault e
    | .refused r => .refused r
  cases h : exec i (s.enter (4 - rest.length)) with
  | next t => exact step_of_exec_next hfetch h
  | fault e => exact step_of_exec_fault hfetch h
  | refused r => exact absurd h (exec_ne_refused i _ r)

/-! ### Reset (10 section 7, 70 R560) -/

/-- Settles O12: the default device meets 00 R11, no memory lists an address, and control is at 0. -/
theorem resetMeetsInvariant : Obligations.ResetMeetsInvariant where
  dev_wf := by decide
  io_wf := State.reset_memories_wf.1
  ram_wf := State.reset_memories_wf.2.1
  flash_wf := State.reset_memories_wf.2.2
  io_keys _ h := absurd h List.not_mem_nil
  ram_keys _ h := absurd h List.not_mem_nil
  flash_keys _ h := absurd h List.not_mem_nil
  pc_even := rfl
  pc_lt := Device.pcMod_pos _
  nextpc_eq := rfl

/-- Settles O11: each value is written in the state after reset; the cycle table is compared mnemonic by mnemonic. -/
theorem resetValues : Obligations.ResetValues := by
  have hunimpl (m : Mnemonic) : m ∈ State.reset.dev.unimplSet ↔
      m ∈ [Mnemonic.break_, .sleep, .spm, .wdr, .eijmp, .eicall] := Iff.rfl
  refine ⟨rfl, rfl, forall_imm3.mpr (by decide), by decide, by decide, rfl, rfl, rfl, rfl, fun _ => rfl, rfl, hunimpl,
    fun m => ?_⟩
  cases m <;> rfl

end Sys2Proof.Machine
end

section
/-! PROOFS. 40_arithmetic_logic.md and 41_shift_bit.md: each ALU operation is the exact integer operation reduced to its
width, with the flags of the exact number. -/

namespace Sys2Proof.Machine

/-! ### Residues and signs (00 R13, 10 R28) -/

/-- A number within twice the signed range is negative exactly when its residue's sign is set and it fits, or neither. -/
theorem neg_iff_sign_iff_fits {m x r : Int} (hr : (0 ≤ x ∧ r = x) ∨ (x < 0 ∧ r = x + 2 * m)) (hlo : -(2 * m) ≤ x)
    (hhi : x < 2 * m) : x < 0 ↔ (m ≤ r ↔ -m ≤ x ∧ x < m) := by
  rcases hr with ⟨hx, rfl⟩ | ⟨hx, rfl⟩
  · omega
  · omega

theorem decide_xor_not_decide (p q : Prop) [Decidable p] [Decidable q] :
    (decide p ^^ !decide q) = decide (p ↔ q) := by
  by_cases hp : p <;> by_cases hq : q <;> simp [hp, hq]

theorem fitsByte_eq (x : Int) : fitsByte x = decide (-128 ≤ x ∧ x < 128) := by
  rw [fitsByte, ← Bool.decide_and]
  exact decide_eq_decide.mpr (by omega)

theorem fitsWord_eq (x : Int) : fitsWord x = decide (-32768 ≤ x ∧ x < 32768) := by
  rw [fitsWord, ← Bool.decide_and]
  exact decide_eq_decide.mpr (by omega)

/-- S of a byte result: N and V differ exactly when the exact number is negative. -/
theorem byte_sign {r : Byte} {x : Int} (hr : (r.toNat : Int) = x % 256) (hlo : -256 ≤ x) (hhi : x < 256) :
    (r.msb ^^ !fitsByte x) = decide (x < 0) := by
  have hneg := neg_iff_sign_iff_fits (m := 128) (x := x) (r := r.toNat) (by omega) hlo hhi
  rw [BitVec.msb_eq_decide, fitsByte_eq, decide_xor_not_decide, decide_eq_decide, hneg]
  omega

/-- S of a word result. -/
theorem word_sign {r : Word16} {x : Int} (hr : (r.toNat : Int) = x % 65536) (hlo : -65536 ≤ x) (hhi : x < 65536) :
    (r.msb ^^ !fitsWord x) = decide (x < 0) := by
  have hneg := neg_iff_sign_iff_fits (m := 32768) (x := x) (r := r.toNat) (by omega) hlo hhi
  rw [BitVec.msb_eq_decide, fitsWord_eq, decide_xor_not_decide, decide_eq_decide, hneg]
  omega

theorem byte_toInt_bounds (a : Byte) : -128 ≤ a.toInt ∧ a.toInt ≤ 127 ∧ a.toInt % 256 = a.toNat % 256 := by
  have := a.isLt
  rw [BitVec.toInt_eq_toNat_cond]
  split <;> omega

theorem word_toInt_bounds (a : Word16) : -32768 ≤ a.toInt ∧ a.toInt ≤ 32767 ∧ a.toInt % 65536 = a.toNat % 65536 := by
  have := a.isLt
  rw [BitVec.toInt_eq_toNat_cond]
  split <;> omega

/-- V is set exactly when the exact number does not fit. -/
theorem eq_not_fitsByte {v : Bool} {x : Int} (h : v = true ↔ x < -128 ∨ 127 < x) : v = !fitsByte x := by
  rw [Bool.eq_iff_iff, h, fitsByte_eq]
  simp only [Bool.not_eq_true', decide_eq_false_iff_not]
  omega

/-! ### Sums and differences (40 R201 to R203) -/

theorem exactAdd_eq_add8 (a b : Byte) (c : Bool) (f : Flags) : exactAdd a b c f = add8 a b c f := by
  obtain ⟨hr, -, -, -, hv, hn, hz, hs, -⟩ := additionPrimitive a b c f
  have hfit := eq_not_fitsByte hv
  have ha := byte_toInt_bounds a
  have hb := byte_toInt_bounds b
  have hc := c.toNat_le
  have hsign := byte_sign (r := (add8 a b c f).1) (x := a.toInt + b.toInt + c.toNat) (by omega) (by omega) (by omega)
  have hn' : decide (128 ≤ (a.toNat + b.toNat + c.toNat) % 256) = (add8 a b c f).2.n := by
    rw [hn, getLsbD_seven, hr]
  rw [← hfit] at hsign
  simp only [exactAdd, ← hz, hn', ← hfit, ← hsign]
  rfl

theorem exactSub_eq_sub8 (a b : Byte) (c zIn : Bool) (f : Flags) :
    exactSub a b c zIn f = ((sub8 a b c f).1, { (sub8 a b c f).2 with z := (sub8 a b c f).2.z && zIn }) := by
  obtain ⟨⟨hr, -, -, -, hv, hn, hz, hs, -⟩, -⟩ := subtractionPrimitives a b c f
  have hfit := eq_not_fitsByte hv
  have ha := byte_toInt_bounds a
  have hb := byte_toInt_bounds b
  have hc := c.toNat_le
  have hsign := byte_sign (r := (sub8 a b c f).1) (x := a.toInt - b.toInt - c.toNat) (by omega) (by omega) (by omega)
  have hn' : decide (128 ≤ ((a.toNat : Int) - b.toNat - c.toNat) % 256) = (sub8 a b c f).2.n := by
    rw [hn, getLsbD_seven, ← hr]
    exact decide_eq_decide.mpr (by omega)
  have hz' : decide (((a.toNat : Int) - b.toNat - c.toNat) % 256 = 0) = (sub8 a b c f).2.z := by
    rw [hz, ← hr]
    exact decide_eq_decide.mpr (by omega)
  have hborrow : decide ((a.toNat : Int) - b.toNat - c.toNat < 0) = (sub8 a b c f).2.c :=
    decide_eq_decide.mpr (by omega)
  have hhalf : decide ((a.toNat % 16 : Int) - (b.toNat % 16 : Int) - c.toNat < 0) = (sub8 a b c f).2.h :=
    decide_eq_decide.mpr (by omega)
  rw [← hfit] at hsign
  simp only [exactSub, hz', hn', hborrow, hhalf, ← hfit, ← hsign]
  rfl

/-- With nothing ANDed into Z the exact difference is `Sub8`. -/
theorem exactSub_true (a b : Byte) (c : Bool) (f : Flags) : exactSub a b c true f = sub8 a b c f := by
  rw [exactSub_eq_sub8, Bool.and_true]

/-- With the old Z ANDed in it is `Sub8PZ`. -/
theorem exactSub_z (a b : Byte) (c : Bool) (f : Flags) : exactSub a b c f.z f = sub8pz a b c f :=
  exactSub_eq_sub8 a b c f.z f

/-! ### Bitwise results, COM, INC, DEC (40 R204, R223, R225, R226) -/

theorem exactLogic_eq_logic8 (r : Byte) (f : Flags) : exactLogic r f = logic8 r f := by
  have hn : decide (128 ≤ r.toNat) = r.msb := (BitVec.msb_eq_decide r).symm
  have hs : decide (r.toInt < 0) = r.msb := BitVec.msb_eq_toInt.symm
  simp only [exactLogic, ← beq_zero_eq_decide_toNat, hn, hs, logic8]

theorem complement_toNat (a : Byte) : (0xFF - a : Byte).toNat = 255 - a.toNat := by bv_omega

/-- The exact step is that of any operation with its result and its overflow. -/
theorem exactStep_eq {a r : Byte} {k : Int} {v : Bool} (f : Flags) (hk : -1 ≤ k ∧ k ≤ 1)
    (hr : (r.toNat : Int) = (a.toNat + k) % 256) (hv : v = true ↔ a.toInt + k < -128 ∨ 127 < a.toInt + k) :
    exactStep a k f = (r, { f with v := v, n := r.msb, z := r == 0, s := r.msb ^^ v }) := by
  have ha := byte_toInt_bounds a
  have hres : (r.toNat : Int) = (a.toInt + k) % 256 := by omega
  have hsign := byte_sign hres (by omega) (by omega)
  have hval : BitVec.ofInt 8 (a.toInt + k) = r := by
    refine BitVec.eq_of_toNat_eq ?_
    rw [BitVec.toNat_ofInt]
    omega
  have hn : decide (128 ≤ (a.toInt + k) % 256) = r.msb := by
    rw [BitVec.msb_eq_decide, ← hres]
    exact decide_eq_decide.mpr (by omega)
  have hz : decide ((a.toInt + k) % 256 = 0) = (r == 0) := by
    rw [beq_zero_eq_decide_toNat, ← hres]
    exact decide_eq_decide.mpr (by omega)
  rw [← eq_not_fitsByte hv] at hsign
  simp only [exactStep, hval, hn, hz, ← eq_not_fitsByte hv, ← hsign]

theorem exactStep_one (a : Byte) (f : Flags) : exactStep a 1 f = inc8 a f := by
  have ha := byte_toInt_bounds a
  have hr : ((a + 1).toNat : Int) = (a.toNat + 1) % 256 := by bv_omega
  refine exactStep_eq f (by omega) hr ?_
  rw [beq_iff_eq, ← BitVec.toNat_inj]
  change (a + 1).toNat = 128 ↔ _
  omega

theorem exactStep_neg_one (a : Byte) (f : Flags) : exactStep a (-1) f = dec8 a f := by
  have ha := byte_toInt_bounds a
  have hr : ((a - 1).toNat : Int) = (a.toNat + -1) % 256 := by bv_omega
  refine exactStep_eq f (by omega) hr ?_
  rw [beq_iff_eq, ← BitVec.toNat_inj]
  change (a - 1).toNat = 127 ↔ _
  omega

/-! ### Shifts (41 R261) -/

theorem exactShiftRight_eq_shiftRight8 (a : Byte) (inj : Bool) (f : Flags) :
    exactShiftRight a inj f = shiftRight8 a inj f := by
  have hr := shiftRight8_toNat a inj f
  have hval : BitVec.ofNat 8 (a.toNat / 2 + 128 * inj.toNat) = (shiftRight8 a inj f).1 := by
    rw [← hr, BitVec.ofNat_toNat, BitVec.setWidth_eq]
  have hc : decide (a.toNat % 2 = 1) = (shiftRight8 a inj f).2.c := by
    change _ = a.getLsbD 0
    rw [← BitVec.testBit_toNat, Nat.testBit_zero]
  have hz : decide (a.toNat / 2 + 128 * inj.toNat = 0) = (shiftRight8 a inj f).2.z := by
    rw [← hr, ← beq_zero_eq_decide_toNat]
    rfl
  have hn := shiftRight8_n a inj f
  have hs := shiftRight8_s a inj f
  have hv : (inj != (shiftRight8 a inj f).2.c) = (shiftRight8 a inj f).2.v := congrArg (· != _) hn.symm
  have hout : shiftRight8 a inj f = ((shiftRight8 a inj f).1, { f with
      c := (shiftRight8 a inj f).2.c, z := (shiftRight8 a inj f).2.z, n := (shiftRight8 a inj f).2.n
      v := (shiftRight8 a inj f).2.v, s := (shiftRight8 a inj f).2.s }) := rfl
  simp only [exactShiftRight, hval, hc, hz, hv]
  exact (hout.trans (by rw [hn, hs])).symm

/-! ### Words and products (40 R212, R217, R230 to R235) -/

theorem word_beq_zero (r : Word16) : (r == 0) = decide (r.toNat = 0) := by
  rw [Bool.beq_eq_decide_eq]
  exact decide_eq_decide.mpr BitVec.toNat_inj.symm

theorem eq_not_fitsWord {v : Bool} {x : Int} (h : v = true ↔ x < -32768 ∨ 32767 < x) : v = !fitsWord x := by
  rw [Bool.eq_iff_iff, h, fitsWord_eq]
  simp only [Bool.not_eq_true', decide_eq_false_iff_not]
  omega

/-- The exact word sum is that of any operation with its result, its carry and its overflow. -/
theorem exactWord_eq {w r : Word16} {k : Int} {c v : Bool} (f : Flags) (hk : -64 ≤ k ∧ k ≤ 64)
    (hr : (r.toNat : Int) = (w.toNat + k) % 65536) (hc : c = true ↔ w.toNat + k < 0 ∨ 65536 ≤ w.toNat + k)
    (hv : v = true ↔ w.toInt + k < -32768 ∨ 32767 < w.toInt + k) :
    exactWord w k f = (r, { f with v := v, c := c, n := r.msb, z := r == 0, s := r.msb ^^ v }) := by
  have hw := word_toInt_bounds w
  have hsign := word_sign (r := r) (x := w.toInt + k) (by omega) (by omega) (by omega)
  have hval : BitVec.ofInt 16 (w.toNat + k) = r := by
    refine BitVec.eq_of_toNat_eq ?_
    rw [BitVec.toNat_ofInt]
    omega
  have hcarry : (decide (w.toNat + k < 0) || decide (65536 ≤ w.toNat + k)) = c := by
    rw [Bool.eq_iff_iff, hc, Bool.or_eq_true, decide_eq_true_eq, decide_eq_true_eq]
  have hn : decide (32768 ≤ (w.toNat + k) % 65536) = r.msb := by
    rw [BitVec.msb_eq_decide, ← hr]
    exact decide_eq_decide.mpr (by omega)
  have hz : decide ((w.toNat + k) % 65536 = 0) = (r == 0) := by
    rw [word_beq_zero, ← hr]
    exact decide_eq_decide.mpr (by omega)
  rw [← eq_not_fitsWord hv] at hsign
  simp only [exactWord, hval, hcarry, hn, hz, ← eq_not_fitsWord hv, ← hsign]

theorem setWidth_toNat (k : IMM6) : (k.setWidth 16 : Word16).toNat = k.toNat := by
  rw [BitVec.toNat_setWidth]
  omega

theorem exactWord_add (w : Word16) (k : IMM6) (f : Flags) : exactWord w k.toNat f = addWord w k f := by
  have hw := word_toInt_bounds w
  have hint := BitVec.toInt_eq_toNat_cond w
  have hk := setWidth_toNat k
  have hr : ((w + k.setWidth 16).toNat : Int) = (w.toNat + k.toNat) % 65536 := by
    rw [BitVec.toNat_add, hk]
    omega
  refine exactWord_eq f (by omega) hr ?_ ?_ <;>
    simp only [BitVec.msb_eq_decide, Bool.and_eq_true, Bool.not_eq_true', decide_eq_true_eq, decide_eq_false_iff_not] <;>
    split at hint <;> omega

theorem exactWord_sub (w : Word16) (k : IMM6) (f : Flags) : exactWord w (-k.toNat) f = subWord w k f := by
  have hw := word_toInt_bounds w
  have hint := BitVec.toInt_eq_toNat_cond w
  have hk := setWidth_toNat k
  have hr : ((w - k.setWidth 16).toNat : Int) = (w.toNat + -k.toNat) % 65536 := by
    rw [BitVec.toNat_sub, hk]
    omega
  refine exactWord_eq f (by omega) hr ?_ ?_ <;>
    simp only [BitVec.msb_eq_decide, Bool.and_eq_true, Bool.not_eq_true', decide_eq_true_eq, decide_eq_false_iff_not] <;>
    split at hint <;> omega

theorem ofInt_msb (p : Int) : (BitVec.ofInt 16 p).msb = decide (32768 ≤ p % 65536) := by
  rw [BitVec.msb_eq_decide, BitVec.toNat_ofInt]
  exact decide_eq_decide.mpr (by omega)

theorem ofInt_beq_zero (p : Int) : (BitVec.ofInt 16 p == 0) = decide (p % 65536 = 0) := by
  rw [word_beq_zero, BitVec.toNat_ofInt]
  exact decide_eq_decide.mpr (by omega)

theorem exactProduct_false (p : Int) (f : Flags) : exactProduct p false f = mulFlags (BitVec.ofInt 16 p) f := by
  rw [mulFlags, ofInt_msb, ofInt_beq_zero]
  rfl

theorem exactProduct_true (p : Int) (f : Flags) : exactProduct p true f = fmulFlags (BitVec.ofInt 16 p) f := by
  have hdouble : BitVec.ofInt 16 p <<< 1 = BitVec.ofInt 16 (2 * p) := by
    refine BitVec.eq_of_toNat_eq ?_
    rw [BitVec.toNat_shiftLeft, BitVec.toNat_ofInt, BitVec.toNat_ofInt, Nat.shiftLeft_eq]
    omega
  simp only [fmulFlags, hdouble, ofInt_msb, ofInt_beq_zero]
  rfl

end Sys2Proof.Machine
end

section
/-! PROOFS. 40_arithmetic_logic.md, 41_shift_bit.md and 42 section 2: the instructions that compute on registers and flags
complete, with the exact results of their operations. -/

namespace Sys2Proof.Machine

/-! ### Arithmetic and logic (spec 40) -/

/-- Settles O29: the exact sum is `Add8`, and a left shift is the sum of a byte with itself. -/
theorem additionsComplete : Obligations.AdditionsComplete := by
  intro s d r
  simp only [List.forall_mem_cons, List.not_mem_nil, false_imp_iff, implies_true, and_true, exactAdd_eq_add8]
  refine ⟨fun h => execute_completes _ h, fun h => execute_completes _ h, fun h => ?_, fun h => ?_⟩
  · rw [exec_expansion]
    exact execute_completes _ h
  · rw [exec_expansion]
    exact execute_completes _ h

/-- Settles O30: the exact difference is `Sub8`, or `Sub8PZ` where the old Z is ANDed in. -/
theorem subtractionsComplete : Obligations.SubtractionsComplete := by
  intro s d r h k
  simp only [List.forall_mem_cons, List.not_mem_nil, false_imp_iff, implies_true, and_true, exactSub_true, exactSub_z]
  exact ⟨fun h => execute_completes _ h, fun h => execute_completes _ h, fun h => execute_completes _ h,
    fun h => execute_completes _ h, fun h => execute_completes _ h⟩

/-- Settles O31: a compare keeps the flags of the difference and drops the difference. -/
theorem comparesComplete : Obligations.ComparesComplete := by
  intro s d r h k
  simp only [List.forall_mem_cons, List.not_mem_nil, false_imp_iff, implies_true, and_true, exactSub_true, exactSub_z]
  exact ⟨fun h => execute_completes _ h, fun h => execute_completes _ h, fun h => execute_completes _ h⟩

/-- Settles O32: TST is AND of a register with itself, CBR ANDs with the complement. -/
theorem logicCompletes : Obligations.LogicCompletes := by
  intro s d r h k
  simp only [List.forall_mem_cons, List.not_mem_nil, false_imp_iff, implies_true, and_true, exactLogic_eq_logic8]
  refine ⟨⟨fun h => execute_completes _ h, fun h => execute_completes _ h, fun h => execute_completes _ h, fun h => ?_,
    fun h => execute_completes _ h⟩, fun h => execute_completes _ h, fun h => execute_completes _ h,
    fun h => execute_completes _ h, fun h => ?_⟩
  · have hself : s.reg (gpr d) &&& s.reg (gpr d) = s.reg (gpr d) := BitVec.and_self
    rw [← hself]
    exact execute_completes _ h
  · rw [← not_eq_ones_sub]
    exact execute_completes _ h

/-- Settles O33: COM is the bitwise result with C set; INC and DEC are exact steps by 1 and -1. -/
theorem oneRegisterArithmeticCompletes : Obligations.OneRegisterArithmeticCompletes := by
  intro s d
  refine ⟨fun h => ⟨_, complement_toNat _, ?_⟩, ?_⟩
  · rw [exactLogic_eq_logic8]
    exact execute_completes _ h
  · simp only [List.forall_mem_cons, List.not_mem_nil, false_imp_iff, implies_true, and_true, exactStep_one,
      exactStep_neg_one]
    exact ⟨fun h => execute_completes _ h, fun h => execute_completes _ h⟩

/-- Settles O34: the exact word sum and difference. -/
theorem wordArithmeticCompletes : Obligations.WordArithmeticCompletes := by
  intro s d k
  simp only [List.forall_mem_cons, List.not_mem_nil, false_imp_iff, implies_true, and_true, exactWord_add,
    exactWord_sub]
  exact ⟨fun h => execute_completes _ h, fun h => execute_completes _ h⟩

/-- Settles O35: the exact products, doubled in the fractional forms. -/
theorem multipliesComplete : Obligations.MultipliesComplete := by
  intro s d r hd hr md mr
  simp only [List.forall_mem_cons, List.not_mem_nil, false_imp_iff, implies_true, and_true, exactProduct_false,
    exactProduct_true]
  exact ⟨fun h => execute_completes _ h, fun h => execute_completes _ h, fun h => execute_completes _ h,
    fun h => execute_completes _ h, fun h => execute_completes _ h, fun h => execute_completes _ h⟩

/-! ### Shifts, moves and flag writes (spec 41, 42 section 2) -/

/-- Settles O36: the injected bit of ASR is the sign. -/
theorem rightShiftsComplete : Obligations.RightShiftsComplete := by
  intro s d
  simp only [List.forall_mem_cons, List.not_mem_nil, false_imp_iff, implies_true, and_true,
    exactShiftRight_eq_shiftRight8, ← getLsbD_seven]
  exact ⟨fun h => execute_completes _ h, fun h => execute_completes _ h, fun h => execute_completes _ h⟩

theorem extract_low_append (hi lo : Byte) : (hi ++ lo : Word16).extractLsb' 0 8 = lo := by
  simp [-Nat.reduceAdd, BitVec.extractLsb'_append_eq_ite]

theorem extract_high_append (hi lo : Byte) : (hi ++ lo : Word16).extractLsb' 8 8 = hi := by
  simp [-Nat.reduceAdd, BitVec.extractLsb'_append_eq_ite]

theorem swapNibbles_toNat (v : Byte) :
    (v.extractLsb' 0 4 ++ v.extractLsb' 4 4 : Byte).toNat = 16 * (v.toNat % 16) + v.toNat / 16 := by
  have hv := v.isLt
  rw [BitVec.toNat_append, ← Nat.shiftLeft_add_eq_or_of_lt (BitVec.isLt _), BitVec.extractLsb'_toNat,
    BitVec.extractLsb'_toNat, Nat.shiftLeft_eq, Nat.shiftRight_zero, Nat.shiftRight_eq_div_pow]
  omega

theorem getLsbD_oneBit (b : IMM3) (j : Nat) : (1#8 <<< b.toNat).getLsbD j = decide (j = b.toNat) := by
  have hb := b.isLt
  rw [BitVec.getLsbD_shiftLeft, BitVec.getLsbD_one, Bool.eq_iff_iff]
  simp only [Bool.and_eq_true, Bool.not_eq_true', decide_eq_true_eq, decide_eq_false_iff_not]
  omega

/-- A bit write changes the one bit (41 R269, R270). -/
theorem getLsbD_writeBit (v : Byte) (b : IMM3) (x : Bool) (j : Nat) :
    (writeBit v b x).getLsbD j = if j = b.toNat then x else v.getLsbD j := by
  have hb := b.isLt
  cases x
  · simp only [writeBit, Bool.false_eq_true, if_false, BitVec.getLsbD_and, BitVec.getLsbD_not, getLsbD_oneBit]
    split
    · simp [*]
    · by_cases hj : j < 8
      · simp [*]
      · simp [*, BitVec.getLsbD_of_ge v j (by omega)]
  · simp only [writeBit, if_true, BitVec.getLsbD_or, getLsbD_oneBit]
    split <;> simp [*]

/-- Settles O37: a pair moves byte by byte, and the other moves are one register write. -/
theorem registerMovesComplete : Obligations.RegisterMovesComplete := by
  intro s d r dp rp h k b
  simp only [List.forall_mem_cons, List.not_mem_nil, false_imp_iff, implies_true, and_true]
  refine ⟨⟨fun h => execute_completes _ h, fun h => execute_completes _ h, fun h => execute_completes _ h⟩, fun h => ?_,
    fun h => ⟨_, swapNibbles_toNat _, execute_completes _ h⟩, fun h => ⟨_, getLsbD_writeBit _ b _, execute_completes _ h⟩⟩
  have hlow : (s.pair (egpr rp)).extractLsb' 0 8 = s.reg (pairLow (egpr rp)) := extract_low_append ..
  have hhigh : (s.pair (egpr rp)).extractLsb' 8 8 = s.reg (pairHigh (egpr rp)) := extract_high_append ..
  rw [← hlow, ← hhigh]
  exact execute_completes _ h

/-- An instruction that writes one flag. -/
theorem exec_of_setBit {i : Instr} {s : State} {k : IMM3} {v : Bool}
    (hexec : exec i s = execute i.mnemonic s (.next (s.setFlags (s.flags.setBit k v)))) (h : s.implements i) :
    ∃ f : Flags, (∀ j : IMM3, f.bit j = if j = k then v else s.flags.bit j) ∧
      exec i s = .next { s with flags := f, cycles := s.cycles + s.baseCycles i } :=
  ⟨_, Flags.bit_setBit s.flags v k, hexec.trans (execute_completes _ h)⟩

/-- Settles O38: each of the instructions is the write of one flag. -/
theorem flagWritesComplete : Obligations.FlagWritesComplete := by
  intro s b r
  simp only [List.forall_mem_cons, List.not_mem_nil, false_imp_iff, implies_true, and_true]
  exact ⟨exec_of_setBit rfl, exec_of_setBit rfl, exec_of_setBit rfl, exec_of_setBit rfl, exec_of_setBit rfl,
    exec_of_setBit rfl, exec_of_setBit rfl, exec_of_setBit rfl, exec_of_setBit rfl, exec_of_setBit rfl,
    exec_of_setBit rfl, exec_of_setBit rfl, exec_of_setBit rfl, exec_of_setBit rfl, exec_of_setBit rfl,
    exec_of_setBit rfl, exec_of_setBit rfl, exec_of_setBit rfl, exec_of_setBit rfl⟩

end Sys2Proof.Machine
end

section
/-! PROOFS. Laws over several operations: S after the ALU (10 R28, decision D21), and the chains that compare and add words
byte by byte (40 R203, R210, R211, R227, R228). -/

namespace Sys2Proof.Machine

/-! ### S is N ^ V after the ALU -/

/-- 10 R28, as the ALU leaves the flags. -/
def SignRule (f : Flags) : Prop := f.s = (f.n ^^ f.v)

theorem logic8_signRule (r : Byte) (f : Flags) : SignRule (logic8 r f).2 := (Bool.xor_false r.msb).symm

theorem com8_signRule (a : Byte) (f : Flags) : SignRule (com8 a f).2 := (Bool.xor_false _).symm

/-- An instruction whose effect completes ends in that state, charged. -/
theorem eq_charge_of_exec {i : Instr} {s t u : State} (h : exec i s = .next t)
    (hexec : exec i s = execute i.mnemonic s (.next u)) : t = u.charge i.mnemonic := by
  obtain ⟨-, _, hv, ht⟩ := execute_next (hexec.symm.trans h)
  cases hv
  exact ht

/-- The flags after an instruction are those of its effect. -/
theorem signRule_of_exec {i : Instr} {s t u : State} (h : exec i s = .next t)
    (hexec : exec i s = execute i.mnemonic s (.next u)) (hu : SignRule u.flags) : SignRule t.flags := by
  rw [eq_charge_of_exec h hexec]
  exact hu

/-- Every instruction that writes N and V writes S by the rule; a direct flag write writes one flag alone. -/
theorem exec_signRule {i : Instr} {s t : State} (h : exec i s = .next t) (hn : 2 ∈ flagsWritten i)
    (hv : 3 ∈ flagsWritten i) : SignRule t.flags := by
  cases i with
  | add | adc | adiw | sub | subi | sbc | sbci | sbiw | neg | inc | dec | cp | cpc | cpi | lsl | rol | lsr | asr
  | ror => exact signRule_of_exec h rfl rfl
  | and | andi | or | ori | eor | tst | clr | sbr | cbr => exact signRule_of_exec h rfl (logic8_signRule ..)
  | com => exact signRule_of_exec h rfl (com8_signRule ..)
  | bset | bclr =>
    rw [flagsWritten, List.mem_singleton] at hn hv
    cases hn.trans hv.symm
  | _ => simp [flagsWritten] at hn hv

/-- A state after reset but for its flags N, V, S. -/
def resetWithSign (n v s : Bool) : State := { State.reset with flags := { State.reset.flags with n := n, v := v, s := s } }

/-- Settles O58: the ALU follows the rule, and each direct write of S, N, V or SREG breaks it in one state. -/
theorem signIsNegativeXorOverflow : Obligations.SignIsNegativeXorOverflow := by
  refine ⟨fun i s t h hn hv => exec_signRule h hn hv, fun s t b hb h => ?_, ?_⟩
  · rcases h with h | h
    · exact flagFrame _ s t 4 h (by simpa [flagsWritten] using hb.symm) List.not_mem_nil
    · exact flagFrame _ s t 4 h (by simpa [flagsWritten] using hb.symm) List.not_mem_nil
  · simp only [List.forall_mem_cons, List.not_mem_nil, false_imp_iff, implies_true, and_true]
    exact ⟨⟨resetWithSign false false false, _, rfl, rfl, by decide⟩,
      ⟨resetWithSign true false true, _, rfl, rfl, by decide⟩,
      ⟨resetWithSign false false false, _, rfl, rfl, by decide⟩,
      ⟨resetWithSign true false true, _, rfl, rfl, by decide⟩,
      ⟨resetWithSign false false false, _, rfl, rfl, by decide⟩,
      ⟨resetWithSign false true true, _, rfl, rfl, by decide⟩,
      ⟨State.reset.setReg 0 0x10, _, rfl, rfl, by decide⟩⟩

/-! ### Words as two bytes (10 R22) -/

theorem gpr_pairLow (j : EGPR) : gpr (BitVec.ofNat 5 (2 * j.toNat)) = pairLow (egpr j) := by
  have := j.isLt
  refine Fin.ext ?_
  change (2 * j.toNat) % 32 = 2 * j.toNat
  omega

theorem gpr_pairHigh (j : EGPR) : gpr (BitVec.ofNat 5 (2 * j.toNat + 1)) = pairHigh (egpr j) := by
  have := j.isLt
  refine Fin.ext ?_
  change (2 * j.toNat + 1) % 32 = 2 * j.toNat + 1
  omega

theorem toInt_wordOfBytes (hi lo : Byte) : (hi ++ lo : Word16).toInt = 256 * hi.toInt + lo.toNat := by
  have hlo := lo.isLt
  have hhi := hi.isLt
  have hword := toNat_wordOfBytes hi lo
  simp only [BitVec.toInt_eq_toNat_cond, hword]
  split <;> split <;> omega

/-! ### Compare, low byte then high byte -/

theorem sub8_s (a b : Byte) (c : Bool) (f : Flags) :
    (sub8 a b c f).2.s = decide (a.toInt - b.toInt - c.toNat < 0) := by
  rw [← exactSub_true]
  rfl

/-- `Sub8` of the low bytes, then `Sub8PZ` of the high bytes, has the Z, C and S of the words. -/
theorem sub8pz_of_sub8 (hj lj hk lk : Byte) (f : Flags) :
    let low := (sub8 lj lk false f).2
    let high := (sub8pz hj hk low.c low).2
    high.z = decide ((hj ++ lj : Word16) = hk ++ lk) ∧
    high.c = decide ((hj ++ lj : Word16).toNat < (hk ++ lk : Word16).toNat) ∧
    high.s = decide ((hj ++ lj : Word16).toInt < (hk ++ lk : Word16).toInt) := by
  intro low high
  have hlj := lj.isLt
  have hlk := lk.isLt
  have hborrow : low.c.toNat = if lj.toNat < lk.toNat then 1 else 0 := by
    have hc : low.c = decide (lj.toNat < lk.toNat) := rfl
    rw [hc]
    split <;> simp [*]
  have hs : high.s = decide (hj.toInt - hk.toInt - low.c.toNat < 0) := sub8_s hj hk low.c low
  have hc : high.c = decide (hj.toNat < hk.toNat + low.c.toNat) := rfl
  have hz : high.z = ((sub8 hj hk low.c low).1 == 0 && (sub8 lj lk false f).1 == 0) := rfl
  have hrh := sub8_toNat hj hk low.c low
  have hrl := sub8_toNat lj lk false f
  refine ⟨?_, ?_, ?_⟩
  · rw [hz, beq_zero_eq_decide_toNat, beq_zero_eq_decide_toNat, ← Bool.decide_and]
    refine decide_eq_decide.mpr (Iff.trans ?_ BitVec.toNat_inj)
    rw [toNat_wordOfBytes, toNat_wordOfBytes]
    have := hj.isLt
    have := hk.isLt
    simp only [Bool.toNat_false] at hrl
    split at hborrow <;> omega
  · rw [hc, toNat_wordOfBytes, toNat_wordOfBytes]
    refine decide_eq_decide.mpr ?_
    split at hborrow <;> omega
  · rw [hs, toInt_wordOfBytes, toInt_wordOfBytes]
    refine decide_eq_decide.mpr ?_
    split at hborrow <;> omega

/-- Settles O59: a compare keeps every register, so the second one reads the high bytes of the same pairs. -/
theorem compareChainComparesWords : Obligations.CompareChainComparesWords := by
  intro s t u j k hlow hhigh
  cases eq_charge_of_exec hlow rfl
  cases eq_charge_of_exec hhigh rfl
  obtain ⟨hz, hc, hs⟩ := sub8pz_of_sub8 (s.reg (pairHigh (egpr j))) (s.reg (pairLow (egpr j)))
    (s.reg (pairHigh (egpr k))) (s.reg (pairLow (egpr k))) s.flags
  simp only [State.charge_flags, State.charge_reg, State.setFlags_flags, State.setFlags_reg, gpr_pairLow,
    gpr_pairHigh]
  exact ⟨hz, hc, hs, rfl⟩

/-! ### Add, low byte then high byte -/

/-- `Add8` of the low bytes, then of the high bytes with its carry, has the sum, C, V and S of the words. -/
theorem add8_of_add8 (hj lj hk lk : Byte) (f : Flags) :
    let low := add8 lj lk false f
    let high := add8 hj hk low.2.c low.2
    high.1 ++ low.1 = (hj ++ lj : Word16) + (hk ++ lk) ∧
    high.2.c = decide (65536 ≤ (hj ++ lj : Word16).toNat + (hk ++ lk : Word16).toNat) ∧
    high.2.v = !fitsWord ((hj ++ lj : Word16).toInt + (hk ++ lk : Word16).toInt) ∧
    high.2.s = decide ((hj ++ lj : Word16).toInt + (hk ++ lk : Word16).toInt < 0) := by
  intro low high
  have hlow : (lj.toNat + lk.toNat < 256 ∧ low.2.c.toNat = 0) ∨ (256 ≤ lj.toNat + lk.toNat ∧ low.2.c.toNat = 1) := by
    have hc : low.2.c = decide (256 ≤ lj.toNat + lk.toNat) := rfl
    rw [hc]
    by_cases h : 256 ≤ lj.toNat + lk.toNat
    · exact .inr ⟨h, by simp [h]⟩
    · exact .inl ⟨by omega, by simp [h]⟩
  have hrl : low.1.toNat = (lj.toNat + lk.toNat) % 256 := add8_isByteSum lj lk false f
  have hrh : high.1.toNat = (hj.toNat + hk.toNat + low.2.c.toNat) % 256 := add8_isByteSum hj hk low.2.c low.2
  have hc : high.2.c = decide (256 ≤ hj.toNat + hk.toNat + low.2.c.toNat) := rfl
  have hexact : exactAdd hj hk low.2.c low.2 = high := exactAdd_eq_add8 ..
  have hv : high.2.v = !fitsByte (hj.toInt + hk.toInt + low.2.c.toNat) := by rw [← hexact]; rfl
  have hs : high.2.s = decide (hj.toInt + hk.toInt + low.2.c.toNat < 0) := by rw [← hexact]; rfl
  have := lj.isLt
  have := lk.isLt
  refine ⟨?_, ?_, ?_, ?_⟩
  · refine BitVec.eq_of_toNat_eq ?_
    rw [BitVec.toNat_add, toNat_wordOfBytes, toNat_wordOfBytes, toNat_wordOfBytes, hrl, hrh]
    omega
  · rw [hc, toNat_wordOfBytes, toNat_wordOfBytes]
    exact decide_eq_decide.mpr (by omega)
  · rw [hv, toInt_wordOfBytes, toInt_wordOfBytes, fitsByte_eq, fitsWord_eq]
    exact congrArg _ (decide_eq_decide.mpr (by omega))
  · rw [hs, toInt_wordOfBytes, toInt_wordOfBytes]
    exact decide_eq_decide.mpr (by omega)

theorem State.reg_setAlu (s : State) (r q : Fin 32) (out : Byte × Flags) :
    (s.setAlu r out).reg q = if q = r then out.1 else s.reg q :=
  s.reg_setReg r q out.1

/-- Settles O60: the first addition writes a low register, so the second one reads the high bytes as they were. -/
theorem addChainAddsWords : Obligations.AddChainAddsWords := by
  intro s t u j k hlow hhigh
  cases eq_charge_of_exec hlow rfl
  cases eq_charge_of_exec hhigh rfl
  simp only [State.charge_flags, State.charge_reg, State.pair, State.setAlu_flags, State.reg_setAlu, gpr_pairLow,
    gpr_pairHigh, pairHigh_ne_pairLow, pairLow_ne_pairHigh, if_false, if_true]
  exact add8_of_add8 (s.reg (pairHigh (egpr j))) (s.reg (pairLow (egpr j))) (s.reg (pairHigh (egpr k)))
    (s.reg (pairLow (egpr k))) s.flags

end Sys2Proof.Machine
end

section
/-! PROOFS. 20_memory.md and 10_state.md section 4: the I/O region, SREG, the read back of a data write, and the stack
primitives. -/

namespace Sys2Proof.Machine

/-! ### The I/O region, index by index (20 R66, R67) -/

/-- The index is one of the core's own registers (20 R66). -/
def State.OwnsIndex (s : State) (i : Nat) : Prop :=
  i = s.dev.sregIo ∨ i = s.dev.splIo ∨ i = s.dev.sphIo ∨ (s.dev.hasRampz = true ∧ i = s.dev.rampzIo)

theorem State.ioRead_of_peek {s : State} {i : Nat} {v : Byte} (h : s.ioPeek i = some v) : s.ioRead i = (v, s) := by
  rcases s.ioRead_cases i with ⟨w, hw, hread⟩ | ⟨hnone, -, -⟩
  · cases h.symm.trans hw
    exact hread
  · cases h.symm.trans hnone

theorem State.ioRead_of_peek_none {s : State} {i : Nat} (h : s.ioPeek i = none) :
    s.ioRead i = (Config.handlerAnswer s.ioTrace s.cycles i,
      { s with ioTrace := .read i (Config.handlerAnswer s.ioTrace s.cycles i) :: s.ioTrace }) := by
  rcases s.ioRead_cases i with ⟨w, hw, -⟩ | ⟨-, -, hread⟩
  · cases h.symm.trans hw
  · exact hread

theorem State.ioWrite_sreg (s : State) (v : Byte) :
    s.ioWrite s.dev.sregIo v = { s with flags := Flags.ofByte v } := if_pos rfl

theorem State.ioPeek_sreg (s : State) : s.ioPeek s.dev.sregIo = some s.sreg := if_pos rfl

/-- What the state holds at an index that is not the core's, where no handler is plugged in. -/
theorem State.io_storage {s : State} {i : Nat} (hi : ¬ s.OwnsIndex i) (hp : i ∉ s.dev.plugged) :
    s.ioPeek i = some (s.io.read i) ∧ ∀ v, s.ioWrite i v = { s with io := s.io.write i v } := by
  simp only [State.OwnsIndex, not_or] at hi
  obtain ⟨h1, h2, h3, h4⟩ := hi
  simp only [State.ioPeek, State.ioWrite, h1, h2, h3, h4, hp, if_false, true_and, implies_true]

theorem State.io_plugged {s : State} {i : Nat} (hi : ¬ s.OwnsIndex i) (hp : i ∈ s.dev.plugged) :
    s.ioPeek i = none ∧ ∀ v, s.ioWrite i v = { s with ioTrace := .write i v :: s.ioTrace } := by
  simp only [State.OwnsIndex, not_or] at hi
  obtain ⟨h1, h2, h3, h4⟩ := hi
  simp only [State.ioPeek, State.ioWrite, h1, h2, h3, h4, hp, if_false, if_true, true_and, implies_true]

theorem State.ioPeek_eq_none_iff {s : State} {i : Nat} :
    s.ioPeek i = none ↔ ¬ s.OwnsIndex i ∧ i ∈ s.dev.plugged := by
  unfold State.ioPeek State.OwnsIndex
  split_ifs <;> simp [*]

/-! ### SREG (10 R27) -/

/-- Bit `b` of the packed byte is flag number `b`. -/
theorem Flags.getLsbD_toByte (f : Flags) : ∀ b : IMM3, f.toByte.getLsbD b.toNat = f.bit b := by
  rw [forall_imm3]
  simp only [Flags.toByte, BitVec.getLsbD_append]
  simp [Flags.bit]

/-- A byte written to SREG sets each flag to its bit. -/
theorem Flags.bit_ofByte (v : Byte) : ∀ b : IMM3, (Flags.ofByte v).bit b = v.getLsbD b.toNat := by
  rw [forall_imm3]
  exact ⟨rfl, rfl, rfl, rfl, rfl, rfl, rfl, rfl⟩

theorem Flags.toByte_ofByte (v : Byte) : (Flags.ofByte v).toByte = v := by
  refine BitVec.eq_of_getLsbD_eq fun i hi => ?_
  have hnum : (BitVec.ofNat 3 i).toNat = i := Nat.mod_eq_of_lt hi
  rw [← hnum, Flags.getLsbD_toByte, Flags.bit_ofByte]

/-- Settles O22: packing and unpacking are inverse, bit by bit. -/
theorem sregIsAViewOfTheFlags : Obligations.SregIsAViewOfTheFlags := by
  intro s v
  have hbit := s.flags.getLsbD_toByte
  have hread : s.ioRead s.dev.sregIo = (s.sreg, s) := State.ioRead_of_peek s.ioPeek_sreg
  rw [State.ioWrite_sreg]
  exact ⟨hbit 7, hbit 6, hbit 5, hbit 4, hbit 3, hbit 2, hbit 1, hbit 0, hread, Flags.toByte_ofByte v,
    Flags.bit_ofByte v, rfl, rfl⟩

/-! ### The data space, read back (20 R67, R81) -/

theorem State.peek_register (s : State) {a : Nat} (h : a < 32) : s.peek a = some (s.reg ⟨a, h⟩) := dif_pos h

theorem State.peek_io {s : State} {a : Nat} (hlo : 32 ≤ a) (hhi : a < 32 + s.dev.nIo) :
    s.peek a = s.ioPeek (a - 32) := by
  have hreg : ¬ a < 32 := by omega
  simp only [State.peek, hreg, hhi, dite_false, if_true]

theorem State.peek_ram {s : State} {a : Nat} (hlo : 32 + s.dev.nIo ≤ a) (hhi : a < s.dev.segSize) :
    s.peek a = some (s.ram.read a) := by
  have hreg : ¬ a < 32 := by omega
  have hio : ¬ a < 32 + s.dev.nIo := by omega
  simp only [State.peek, hreg, hio, hhi, dite_false, if_false, if_true]

/-- A write of an I/O byte that the state holds is read back at its index. -/
theorem State.ioPeek_ioWrite {s : State} {i : Nat} (v : Byte) (hwf : s.io.wf = true) (h : s.ioPeek i ≠ none) :
    (s.ioWrite i v).ioPeek i = some v := by
  unfold State.ioWrite
  split_ifs with h1 h2 h3 h4 h5
  · exact (if_pos h1).trans (congrArg some (Flags.toByte_ofByte v))
  · exact (if_neg h1).trans (if_pos h2)
  · exact (if_neg h1).trans ((if_neg h2).trans (if_pos h3))
  · exact (if_neg h1).trans ((if_neg h2).trans ((if_neg h3).trans (if_pos h4)))
  · exact absurd (State.ioPeek_eq_none_iff.mpr ⟨by simp only [State.OwnsIndex, not_or]; exact ⟨h1, h2, h3, h4⟩, h5⟩) h
  · have hread := congrArg some (Memory.read_write_same hwf i v)
    exact (if_neg h1).trans ((if_neg h2).trans ((if_neg h3).trans ((if_neg h4).trans ((if_neg h5).trans hread))))

/-- An address outside a footprint without registers reads as before. -/
theorem Within.peek_unwritten {fp : Footprint} {b n : Nat} {s t : State} (h : Within fp n s t) (hregs : fp.regs = [])
    (hb : b ∉ fp.stores) (hsreg : b = 32 + s.dev.sregIo → fp.flags = [])
    (hsp : b = 32 + s.dev.splIo ∨ b = 32 + s.dev.sphIo → fp.sp = false) : t.peek b = s.peek b := by
  rcases Nat.lt_or_ge b 32 with hlt | hge
  · rw [State.peek_register t hlt, State.peek_register s hlt, h.regs _ (by simp [hregs]) hb]
  · exact h.peek hge hb hsreg hsp

/-- The data space with one address written: a footprint of that address alone. -/
def Footprint.store (a : Nat) : Footprint := ⟨[], [], [a], false⟩

theorem Within.peek_other {a b n : Nat} {s t : State} (h : Within (Footprint.store a) n s t) (hb : b ≠ a) :
    t.peek b = s.peek b :=
  h.peek_unwritten rfl (by simpa [Footprint.store] using hb) (fun _ => rfl) fun _ => rfl

/-- Settles O21: region by region at the address itself; the footprint of the write at every other address. -/
theorem dataWriteIsReadBack : Obligations.DataWriteIsReadBack := by
  intro s t a v hio hram hwrite
  have hw : Within (Footprint.store a) 1 s t := Within.memWrite (.head _) hwrite
  refine ⟨?_, ?_, fun b hb => hw.peek_other hb⟩ <;>
    rcases State.memWrite_ok hwrite with ⟨ha, rfl⟩ | ⟨hlo, hhi, rfl⟩ | ⟨hlo, hhi, rfl⟩
  · exact fun _ => by rw [State.peek_register _ ha, State.reg_setReg_same]
  · rw [State.peek_io hlo hhi, State.peek_io hlo (by rwa [hw.dev])]
    exact State.ioPeek_ioWrite v hio
  · have hpeek := State.peek_ram (s := { s with ram := s.ram.write a v }) hlo hhi
    exact fun _ => hpeek.trans (congrArg some (Memory.read_write_same hram a v))
  · exact fun hnone => by simp [State.peek_register s ha] at hnone
  · rw [State.peek_io hlo hhi, State.ioPeek_eq_none_iff]
    exact fun ⟨howns, hplugged⟩ => (State.io_plugged howns hplugged).2 v
  · exact fun hnone => by simp [State.peek_ram hlo hhi] at hnone

/-! ### Base cycles on top of an effect (70 R580) -/

/-- An implemented instruction whose effect completes within a footprint ends there, its base cycles added. -/
theorem exec_of_next {i : Instr} {s t : State} {fp : Footprint} {n : Nat}
    (hexec : exec i s = execute i.mnemonic s (.next t)) (himpl : s.implements i) (ht : Within fp n s t) :
    exec i s = .next { t with cycles := s.cycles + s.baseCycles i } := by
  rw [hexec, execute_completes t himpl, State.charge, ht.cycles, ht.dev]
  rfl

/-! ### IN and OUT against LDS and STS (20 R60, R68) -/

theorem ofNat_ioAddress (a : IMM6) : (BitVec.ofNat 16 (32 + a.toNat)).toNat = 32 + a.toNat := by
  rw [BitVec.toNat_ofNat]
  omega

/-- Settles O23: the I/O region starts at data address 32. -/
theorem ioAndDataAddressesAgree : Obligations.IoAndDataAddressesAgree := by
  intro s r a hnio
  have haddr := ofNat_ioAddress a
  have hlo : 32 ≤ 32 + a.toNat := Nat.le_add_right ..
  have hhi : 32 + a.toNat < 32 + s.dev.nIo := by omega
  refine ⟨?_, ?_⟩
  · intro lds hin hlds
    have hw : Within ⟨[gpr r], [], [], false⟩ 1 s ((s.ioRead a.toNat).2.setReg (gpr r) (s.ioRead a.toNat).1) :=
      (Within.ioRead _ s a.toNat).trans (Within.setReg (n := 0) _ (.inl (.head _)))
    have hload : loadFrom (gpr r) (32 + a.toNat) s
        = .next ((s.ioRead a.toNat).2.setReg (gpr r) (s.ioRead a.toNat).1) := by
      rw [loadFrom, State.memRead_io hlo hhi, Nat.add_sub_cancel_left]
      rfl
    rw [← haddr] at hload
    exact ⟨_, exec_of_next rfl hin hw, exec_of_next (congrArg (execute .lds s) hload) hlds hw⟩
  · intro sts hout hsts
    have hw : Within (Footprint.store (32 + a.toNat)) 1 s (s.ioWrite a.toNat (s.reg (gpr r))) :=
      Within.ioWrite _ (.head _) fun _ => by omega
    have hstore : storeTo (s.reg (gpr r)) (32 + a.toNat) s = .next (s.ioWrite a.toNat (s.reg (gpr r))) := by
      rw [storeTo, State.memWrite_io _ hlo hhi, Nat.add_sub_cancel_left]
      rfl
    rw [← haddr] at hstore
    exact ⟨_, exec_of_next rfl hout hw, exec_of_next (congrArg (execute .sts s) hstore) hsts hw⟩

/-! ### The stack primitives (20 R76 to R78) -/

theorem State.push_of_memWrite {s m : State} {v : Byte} (h : s.memWrite s.sp.toNat v = .ok m) :
    s.push v = .ok (m.setSp (s.sp - 1)) := by
  simp only [State.push, h]

theorem State.push_outside {s : State} (v : Byte) (h : s.dev.segSize ≤ s.sp.toNat) :
    s.push v = .error (.outOfRange .dataWrite s.sp.toNat) := by
  simp only [State.push, State.memWrite_outside v h]

/-- Settles O25: both primitives move SP by one, modulo 65536. -/
theorem stackPrimitives : Obligations.StackPrimitives := by
  refine fun s v => ⟨fun hin => ?_, State.push_outside v, fun hzero => ?_, s.setSp (s.sp + 1), rfl, ?_, ?_⟩
  · obtain ⟨m, hm⟩ := State.memWrite_total v hin
    refine ⟨m, _, hm, State.push_of_memWrite hm, rfl, ?_⟩
    rw [State.sp_setSp]
    bv_omega
  · have hwrite : s.memWrite s.sp.toNat v = .ok (s.setReg 0 v) := by
      rw [hzero]
      exact s.memWrite_register v (Nat.zero_lt_succ 31)
    have hsp : ((s.setReg 0 v).setSp (s.sp - 1)).sp = 0xFFFF := by
      rw [State.sp_setSp, hzero]
      rfl
    refine ⟨_, State.push_of_memWrite hwrite, State.reg_setReg_same s 0 v, hsp, fun hseg v' => ?_⟩
    have hout := State.push_outside (s := (s.setReg 0 v).setSp (s.sp - 1)) v'
    rw [hsp] at hout
    exact hout (Nat.le_of_lt_succ hseg)
  · rw [State.sp_setSp, BitVec.toNat_add]
    rfl
  · rw [State.pop_eq, State.sp_setSp]

end Sys2Proof.Machine
end

section
/-! PROOFS. 42_data_transfer.md and 41 R270, R271: the I/O instructions, loads, stores, program-memory loads and stack
transfers complete where their accesses succeed, and fault elsewhere. -/

namespace Sys2Proof.Machine

/-! ### I/O instructions (20 R66, R67; 42 R342, R343; 41 R270, R271) -/

/-- The four core indices of a device that meets 00 R11 are distinct. -/
theorem Device.wf_nodup {d : Device} (h : d.wf = true) : [d.sregIo, d.sphIo, d.splIo, d.rampzIo].Nodup := by
  simp only [Device.wf, Bool.and_eq_true, decide_eq_true_eq] at h
  exact h.2

/-- SPL, SPH and RAMPZ, each whole at its own index (10 R29, R30). -/
theorem coreIndices {s : State} (hwf : s.dev.wf = true) (v : Byte) :
    (s.ioRead s.dev.splIo = (s.spl, s) ∧ s.ioWrite s.dev.splIo v = { s with spl := v }) ∧
    (s.ioRead s.dev.sphIo = (s.sph, s) ∧ s.ioWrite s.dev.sphIo v = { s with sph := v }) ∧
    (s.dev.hasRampz = true →
      s.ioRead s.dev.rampzIo = (s.rampz, s) ∧ s.ioWrite s.dev.rampzIo v = { s with rampz := v }) := by
  have hdistinct := Device.wf_nodup hwf
  simp only [List.nodup_cons, List.mem_cons, List.not_mem_nil, or_false, not_or] at hdistinct
  obtain ⟨⟨hsreg_sph, hsreg_spl, hsreg_rampz⟩, ⟨hsph_spl, hsph_rampz⟩, hspl_rampz, -⟩ := hdistinct
  have hspl := Ne.symm hsreg_spl
  have hsph := Ne.symm hsreg_sph
  have hrampz := Ne.symm hsreg_rampz
  refine ⟨⟨?_, ?_⟩, ⟨?_, ?_⟩, fun h => ⟨?_, ?_⟩⟩
  · exact (if_neg hspl).trans (if_pos rfl)
  · exact (if_neg hspl).trans (if_pos rfl)
  · exact (if_neg hsph).trans ((if_neg hsph_spl).trans (if_pos rfl))
  · exact (if_neg hsph).trans ((if_neg hsph_spl).trans (if_pos rfl))
  · exact (if_neg hrampz).trans ((if_neg (Ne.symm hspl_rampz)).trans ((if_neg (Ne.symm hsph_rampz)).trans
      (if_pos ⟨h, rfl⟩)))
  · exact (if_neg hrampz).trans ((if_neg (Ne.symm hspl_rampz)).trans ((if_neg (Ne.symm hsph_rampz)).trans
      (if_pos ⟨h, rfl⟩)))

/-- SBI and CBI at a byte the state holds: the byte written back with one bit changed. -/
theorem ioUpdateBit_of_peek {s : State} {a : IMM5} {b : IMM3} {v : Byte} (value : Bool)
    (h : s.ioPeek a.toNat = some v) : ioUpdateBit a b value s = s.ioWrite a.toNat (writeBit v b value) := by
  rw [ioUpdateBit, State.ioRead_of_peek h]

/-- SBI and CBI at a plugged-in handler: one read, then one write of the answer with one bit changed. -/
theorem ioUpdateBit_of_peek_none {s : State} {a : IMM5} {b : IMM3} (value : Bool) (h : s.ioPeek a.toNat = none) :
    let v := Config.handlerAnswer s.ioTrace s.cycles a.toNat
    ioUpdateBit a b value s = { s with
      ioTrace := .write a.toNat (writeBit v b value) :: .read a.toNat v :: s.ioTrace } := by
  intro v
  obtain ⟨howns, hplugged⟩ := State.ioPeek_eq_none_iff.mp h
  rw [ioUpdateBit, State.ioRead_of_peek_none h]
  exact (State.io_plugged (s := { s with ioTrace := .read a.toNat v :: s.ioTrace }) howns hplugged).2 _

/-- SBI and CBI complete. -/
theorem exec_ioUpdateBit {i : Instr} {s : State} {a : IMM5} {b : IMM3} {value : Bool}
    (hexec : exec i s = execute i.mnemonic s (.next (ioUpdateBit a b value s))) (himpl : s.implements i) :
    (∀ v, s.ioPeek a.toNat = some v →
      ∃ w : Byte, (∀ j, w.getLsbD j = if j = b.toNat then value else v.getLsbD j) ∧
        exec i s = .next { s.ioWrite a.toNat w with cycles := s.cycles + s.baseCycles i }) ∧
    (s.ioPeek a.toNat = none →
      let v := Config.handlerAnswer s.ioTrace s.cycles a.toNat
      ∃ w : Byte, (∀ j, w.getLsbD j = if j = b.toNat then value else v.getLsbD j) ∧
        exec i s = .next { s with
          ioTrace := .write a.toNat w :: .read a.toNat v :: s.ioTrace
          cycles := s.cycles + s.baseCycles i }) := by
  have hnext := exec_of_next hexec himpl
    (Within.ioUpdateBit (fp := Footprint.store (32 + a.toNat)) a b value (.head _))
  refine ⟨fun v hv => ⟨_, getLsbD_writeBit v b value, ?_⟩, fun hnone => ⟨_, getLsbD_writeBit _ b value, ?_⟩⟩
  · rw [hnext, ioUpdateBit_of_peek value hv]
  · rw [hnext, ioUpdateBit_of_peek_none value hnone]

/-- Settles O39: the I/O region index by index, and the four instructions through its two operations. -/
theorem ioInstructionsComplete : Obligations.IoInstructionsComplete := by
  intro s r a a5 b
  have hin (h : s.implements (.in_ r a)) := exec_of_next (i := .in_ r a) rfl h
    ((Within.ioRead ⟨[gpr r], [], [], false⟩ s a.toNat).trans (Within.setReg (n := 0) _ (.inl (.head _))))
  refine ⟨fun i v => State.ioRead_of_peek, fun i => State.ioRead_of_peek_none, fun hwf v => ?_, fun i v h1 h2 h3 h4 => ?_,
    toNat_wordOfBytes _ _, ⟨rfl, rfl, rfl, rfl⟩, fun h => ⟨fun v hv => ?_, fun hnone => ?_⟩, fun h => ?_, ?_⟩
  · obtain ⟨⟨hspl, hspl'⟩, ⟨hsph, hsph'⟩, hrampz⟩ := coreIndices hwf v
    exact ⟨hspl, hspl', hsph, hsph', hrampz⟩
  · have howns : ¬ s.OwnsIndex i := by
      rintro (h | h | h | ⟨hr, h⟩)
      · exact h1 h
      · exact h2 h
      · exact h3 h
      · exact h4 hr h
    refine ⟨fun hp => ?_, fun hp => ?_⟩
    · obtain ⟨hpeek, hwrite⟩ := State.io_storage howns hp
      exact ⟨State.ioRead_of_peek hpeek, hwrite v⟩
    · obtain ⟨hpeek, hwrite⟩ := State.io_plugged howns hp
      exact ⟨hpeek, hwrite v⟩
  · rw [hin h, State.ioRead_of_peek hv]
    rfl
  · rw [hin h, State.ioRead_of_peek_none hnone]
    rfl
  · exact exec_of_next rfl h (Within.ioWrite (fp := Footprint.store (32 + a.toNat)) _ (.head _) fun hwf => by
      have := Device.wf_nIo hwf
      omega)
  · simp only [List.forall_mem_cons, List.not_mem_nil, false_imp_iff, implies_true, and_true]
    exact ⟨exec_ioUpdateBit rfl, exec_ioUpdateBit rfl⟩

/-! ### Loads and stores (42 sections 3 and 4) -/

theorem State.memRead_total {s : State} {a : Nat} (h : a < s.dev.segSize) : ∃ v t, s.memRead a = .ok (v, t) := by
  cases hr : s.memRead a with
  | ok got => exact ⟨got.1, got.2, rfl⟩
  | error e => exact absurd (State.memRead_error_iff.mp hr).1 (by omega)

/-- Settles O40: a load is one data read after its pointer update. -/
theorem loadsComplete : Obligations.LoadsComplete := by
  refine ⟨fun s v => ?_, fun i s u d ea hop hov himpl => ?_⟩
  · have hv : v.toNat = 256 * (v.extractLsb' 8 8).toNat + (v.extractLsb' 0 8).toNat := by
      rw [← toNat_wordOfBytes, word_of_bytes]
    simp only [List.forall_mem_cons, List.not_mem_nil, false_imp_iff, implies_true, and_true]
    exact ⟨⟨toNat_wordOfBytes _ _, _, _, hv, rfl⟩, ⟨toNat_wordOfBytes _ _, _, _, hv, rfl⟩,
      ⟨toNat_wordOfBytes _ _, _, _, hv, rfl⟩⟩
  · obtain ⟨hd, hu⟩ := loadOperand_within hop
    have hexec := exec_of_loadOperand hop
    rw [hov] at hexec
    rw [← hu.dev]
    refine ⟨fun hin => ?_, fun hout => ?_⟩
    · obtain ⟨v, m, hread⟩ := State.memRead_total hin
      have hload : loadFrom d ea u = .next (m.setReg d v) := by rw [loadFrom, hread]; rfl
      exact ⟨v, m, hread, exec_of_next (hexec.trans (congrArg (execute _ s) hload)) himpl
        ((hu.trans (Within.memRead hread)).trans (Within.setReg (n := 0) v (.inl hd)))⟩
    · have hload : loadFrom d ea u = .fault (.outOfRange .dataRead ea) := by
        rw [loadFrom, State.memRead_outside hout]; rfl
      exact (hexec.trans (congrArg (execute _ s) hload)).trans (execute_stops _ himpl)

/-- Settles O41: a store is one data write after its pointer update. -/
theorem storesComplete : Obligations.StoresComplete := by
  intro i s u v ea hop hov himpl
  obtain ⟨hstores, hu⟩ := storeOperand_within hop
  have hexec := exec_of_storeOperand hop
  rw [hov] at hexec
  rw [← hu.dev]
  refine ⟨fun hin => ?_, fun hout => ?_⟩
  · obtain ⟨m, hwrite⟩ := State.memWrite_total v hin
    have hstore : storeTo v ea u = .next m := by rw [storeTo, hwrite]; rfl
    have hea : ea ∈ (footprint i s).stores := by simp [footprint, hstores]
    exact ⟨m, hwrite, exec_of_next (hexec.trans (congrArg (execute _ s) hstore)) himpl
      (hu.trans (Within.memWrite hea hwrite))⟩
  · have hstore : storeTo v ea u = .fault (.outOfRange .dataWrite ea) := by
      rw [storeTo, State.memWrite_outside v hout]; rfl
    exact (hexec.trans (congrArg (execute _ s) hstore)).trans (execute_stops _ himpl)

/-! ### Program-memory loads (42 section 5) -/

/-- Settles O42: a program-memory load is one read of program memory, which its pointer update leaves alone. -/
theorem programMemoryLoadsComplete : Obligations.ProgramMemoryLoadsComplete := by
  refine ⟨fun s => ⟨fun h => if_pos h, fun h => if_neg (by simp [h]), rfl⟩, fun i s u d pa hop hov himpl => ?_⟩
  obtain ⟨hd, hu⟩ := flashOperand_within hop
  have hexec := exec_of_flashOperand hop
  rw [hov] at hexec
  rw [← hu.dev, ← hu.flash]
  refine ⟨fun hin => ?_, fun hout => ?_⟩
  · have hload : loadFlash d pa u = .next (u.setReg d (u.flash.read pa)) := by
      rw [loadFlash, State.flashByte_inside hin]; rfl
    exact exec_of_next (hexec.trans (congrArg (execute _ s) hload)) himpl
      (hu.trans (Within.setReg (n := 0) _ (.inl hd)))
  · have hload : loadFlash d pa u = .fault (.outOfRange .flashRead pa) := by
      rw [loadFlash, State.flashByte_outside hout]; rfl
    exact (hexec.trans (congrArg (execute _ s) hload)).trans (execute_stops _ himpl)

end Sys2Proof.Machine
end

section
/-! PROOFS. The stack: its primitives inside, outside and in RAM (20 R76 to R78), PUSH and POP (42 R360, R361). -/

namespace Sys2Proof.Machine

/-! ### One byte -/

theorem State.push_total {s : State} (v : Byte) (h : s.sp.toNat < s.dev.segSize) : ∃ t, s.push v = .ok t := by
  obtain ⟨m, hm⟩ := State.memWrite_total v h
  exact ⟨_, State.push_of_memWrite hm⟩

theorem State.pop_total {s : State} (h : (s.sp + 1).toNat < s.dev.segSize) : ∃ v t, s.pop = .ok (v, t) :=
  State.memRead_total (s := s.setSp (s.sp + 1)) h

theorem State.pop_outside {s : State} (h : s.dev.segSize ≤ (s.sp + 1).toNat) :
    s.pop = .error (.outOfRange .dataRead (s.sp + 1).toNat) :=
  State.memRead_outside (s := s.setSp (s.sp + 1)) h

/-- What a push and a pop, at any addresses, leave alone. -/
def Footprint.stack (stores : List Nat) : Footprint := ⟨[], [], stores, true⟩

theorem Within.push_stack {s t : State} {v : Byte} (h : s.push v = .ok t) :
    Within (Footprint.stack [s.sp.toNat]) 1 s t := Within.push rfl (.head _) h

theorem Within.pop_stack {s t : State} {v : Byte} (h : s.pop = .ok (v, t)) : Within (Footprint.stack []) 1 s t :=
  Within.pop rfl h

theorem State.pop_sp {s t : State} {v : Byte} (h : s.pop = .ok (v, t)) : t.sp = s.sp + 1 := by
  have hread : Within ⟨[], [], [], false⟩ 1 (s.setSp (s.sp + 1)) t := Within.memRead h
  rw [State.sp, hread.sph rfl List.not_mem_nil, hread.spl rfl List.not_mem_nil]
  exact s.sp_setSp (s.sp + 1)

/-! ### In RAM, where a byte is held -/

theorem State.push_ram {s : State} (v : Byte) (hlo : 32 + s.dev.nIo ≤ s.sp.toNat) (hhi : s.sp.toNat < s.dev.segSize) :
    s.push v = .ok ({ s with ram := s.ram.write s.sp.toNat v }.setSp (s.sp - 1)) :=
  State.push_of_memWrite (State.memWrite_ram v hlo hhi)

theorem State.pop_ram {s : State} (hlo : 32 + s.dev.nIo ≤ (s.sp + 1).toNat) (hhi : (s.sp + 1).toNat < s.dev.segSize) :
    s.pop = .ok (s.ram.read (s.sp + 1).toNat, s.setSp (s.sp + 1)) :=
  State.memRead_ram (s := s.setSp (s.sp + 1)) hlo hhi

/-- The SP of `s` written to `t`: its SPL and SPH (10 R28). -/
theorem State.setSp_sp (s t : State) : t.setSp s.sp = { t with spl := s.spl, sph := s.sph } := by
  rw [State.setSp, State.sp, extract_low_append, extract_high_append]

/-! ### PUSH and POP -/

/-- Settles O43: each is one stack operation. -/
theorem stackTransfersComplete : Obligations.StackTransfersComplete := by
  intro s r
  have hexec_push : exec (.push r) s = execute .push s (andThen (s.push (s.reg (gpr r))) .next) := rfl
  have hexec_pop : exec (.pop r) s = execute .pop s (andThen s.pop fun got => .next (got.2.setReg (gpr r) got.1)) := rfl
  refine ⟨fun himpl => ⟨fun hin => ?_, fun hout => ?_⟩, fun himpl => ⟨fun hin => ?_, fun hout => ?_⟩⟩
  · obtain ⟨m, hpush⟩ := State.push_total (s.reg (gpr r)) hin
    rw [hpush] at hexec_push
    exact ⟨m, hpush, exec_of_next hexec_push himpl (Within.push_stack hpush)⟩
  · rw [hexec_push, State.push_outside _ hout]
    exact execute_stops _ himpl
  · obtain ⟨v, m, hpop⟩ := State.pop_total hin
    rw [hpop] at hexec_pop
    have hw : Within ⟨[gpr r], [], [], true⟩ 1 s (m.setReg (gpr r) v) :=
      (Within.pop rfl hpop).trans (Within.setReg (n := 0) v (.inl (.head _)))
    exact ⟨v, m, hpop, exec_of_next hexec_pop himpl hw⟩
  · rw [hexec_pop, State.pop_outside hout]
    exact execute_stops _ himpl

/-- Settles O44: POP moves SP back to the byte that PUSH wrote. -/
theorem pushThenPopReturnsTheByte : Obligations.PushThenPopReturnsTheByte := by
  intro s r d hpush hpop hram hlo hhi
  have hback : s.sp - 1 + 1 = s.sp := BitVec.sub_add_cancel s.sp 1
  let t : State := { { s with ram := s.ram.write s.sp.toNat (s.reg (gpr r)) }.setSp (s.sp - 1) with
    cycles := s.cycles + s.baseCycles (.push r) }
  have hsp : t.sp + 1 = s.sp := (congrArg (· + 1) (s.sp_setSp (s.sp - 1))).trans hback
  have ht : exec (.push r) s = .next t := by
    have hexec : exec (.push r) s = execute .push s (andThen (s.push (s.reg (gpr r))) .next) := rfl
    rw [State.push_ram _ hlo hhi] at hexec
    exact exec_of_next hexec hpush (Within.push_stack (State.push_ram _ hlo hhi))
  have hread : t.pop = .ok (s.reg (gpr r), t.setSp s.sp) := by
    have hget : t.ram.read s.sp.toNat = s.reg (gpr r) := Memory.read_write_same hram _ _
    have h := State.pop_ram (s := t) (by rwa [hsp]) (by rwa [hsp])
    rwa [hsp, hget] at h
  have hu : exec (.pop d) t = .next (((t.setSp s.sp).setReg (gpr d) (s.reg (gpr r))).charge .pop) := by
    have hexec : exec (.pop d) t = execute .pop t (andThen t.pop fun got => .next (got.2.setReg (gpr d) got.1)) := rfl
    rw [hread] at hexec
    exact hexec.trans (execute_completes _ hpop)
  rw [State.setSp_sp] at hu
  exact ⟨t, _, ht, hu, rfl⟩

end Sys2Proof.Machine
end

section
/-! PROOFS. 43_control_transfer.md sections 2, 4 and 5: jumps, branches and skips. -/

namespace Sys2Proof.Machine

theorem State.relTarget_lt (s : State) (k : Int) : s.relTarget k < s.dev.pcMod := by
  have hcast := s.relTarget_cast k
  have hpos := Device.pcMod_pos s.dev
  have := Int.emod_lt_of_pos (s.nextpc + 2 * k) (b := s.dev.pcMod) (by omega)
  omega

/-- A relative target is a program counter value already (43 R383, R393). -/
theorem State.relTarget_mod (s : State) (k : Int) : s.relTarget k % s.dev.pcMod = s.relTarget k :=
  Nat.mod_eq_of_lt (s.relTarget_lt k)

/-- Settles O45: a jump writes `nextpc` alone. -/
theorem jumpsComplete : Obligations.JumpsComplete := by
  intro s k a
  simp only [List.forall_mem_cons, List.not_mem_nil, false_imp_iff, implies_true, and_true]
  refine ⟨fun h => ?_, fun h => execute_completes _ h, fun h => execute_completes _ h⟩
  have hexec : exec (.rjmp k) s = execute .rjmp s (.next { s with nextpc := s.relTarget (lrel k) % s.dev.pcMod }) := rfl
  rw [State.relTarget_mod] at hexec
  exact hexec.trans (execute_completes _ h)

/-- Settles O49: every branch is one conditional jump. -/
theorem branchesComplete : Obligations.BranchesComplete := by
  intro i s taken k hop himpl
  obtain ⟨-, hexec⟩ := exec_of_branchTest hop
  rw [hexec, branchIf_eq, State.relTarget_mod, execute_completes _ himpl, State.charge, Nat.add_right_comm]
  rfl

theorem State.skip_inside {s : State} (h : s.nextpc + 1 < s.dev.flashBytes) :
    let size := sizeOfWord (s.flash.read (s.nextpc + 1) ++ s.flash.read s.nextpc)
    s.skip = .ok { s with nextpc := (s.nextpc + size) % s.dev.pcMod, cycles := s.cycles + size / 2 } := by
  cases hskip : s.skip with
  | ok t =>
    obtain ⟨w, hw, rfl⟩ := State.skip_ok hskip
    cases (State.flash16_inside h).symm.trans hw
    rfl
  | error e => exact absurd (State.skip_error hskip).1 (by omega)

theorem State.skip_outside {s : State} (h : s.dev.flashBytes ≤ s.nextpc + 1) :
    s.skip = .error (.outOfRange .fetch s.nextpc) := by
  rw [State.skip, State.flash16_outside h]

/-- Settles O50: the test reads at most one I/O byte; the skip looks at the word at `nextpc`. -/
theorem skipsComplete : Obligations.SkipsComplete := by
  intro i s u taken hop himpl
  have hu := skipTest_within hop
  obtain ⟨-, hexec⟩ := exec_of_skipTest hop
  refine ⟨?_, ?_, ?_⟩
  · rintro rfl
    exact exec_of_next hexec himpl hu
  · rintro rfl hin
    rw [← hu.nextpc, ← hu.dev] at hin
    have hskip : skipIf true u = _ := congrArg (andThen · .next) (State.skip_inside hin)
    rw [hexec, hskip, hu.nextpc, hu.flash, hu.dev, hu.cycles, andThen, execute_completes _ himpl, State.charge,
      Nat.add_right_comm]
    rfl
  · rintro rfl hout
    rw [← hu.nextpc, ← hu.dev] at hout
    have hskip : skipIf true u = _ := congrArg (andThen · .next) (State.skip_outside hout)
    rw [hexec, hskip, hu.nextpc]
    exact execute_stops _ himpl

end Sys2Proof.Machine
end

section
/-! PROOFS. 43_control_transfer.md section 3 and 60_exceptions.md section 2: calls, interrupt entry and returns. -/

namespace Sys2Proof.Machine

/-! ### A return address on the stack (43 R381, R382) -/

/-- The word address that a call pushes. -/
def returnWord (a : Nat) : Word16 := BitVec.ofNat 16 (a / 2)

theorem returnWord_low (a : Nat) : ((returnWord a).extractLsb' 0 8).toNat = a / 2 % 256 := by
  simp only [returnWord, BitVec.extractLsb'_toNat, BitVec.toNat_ofNat, Nat.shiftRight_zero]
  omega

theorem returnWord_high (a : Nat) : ((returnWord a).extractLsb' 8 8).toNat = a / 512 % 256 := by
  simp only [returnWord, BitVec.extractLsb'_toNat, BitVec.toNat_ofNat, Nat.shiftRight_eq_div_pow]
  omega

/-- An even program counter of 17 bits comes back from its word address. -/
theorem two_mul_returnWord {a m : Nat} (heven : a % 2 = 0) (hlt : a < m) (h17 : a < 2 ^ 17) :
    2 * (returnWord a).toNat % m = a := by
  have h : 2 * (returnWord a).toNat = a := by
    rw [returnWord, BitVec.toNat_ofNat]
    omega
  rw [h, Nat.mod_eq_of_lt hlt]

theorem State.pushPC_of_push {s m : State} {a : Nat} (h : s.push ((returnWord a).extractLsb' 0 8) = .ok m) :
    s.pushPC a = m.push ((returnWord a).extractLsb' 8 8) := by
  rw [returnWord] at h
  simp only [State.pushPC, h]
  rfl

/-- Two pushes, SP two lower: both bytes in the data space. -/
theorem State.pushPC_inside {s : State} (a : Nat) (h₀ : s.sp.toNat < s.dev.segSize)
    (h₁ : (s.sp - 1).toNat < s.dev.segSize) :
    ∃ lo hi : Byte, ∃ m t : State, lo.toNat = a / 2 % 256 ∧ hi.toNat = a / 512 % 256 ∧
      s.push lo = .ok m ∧ m.push hi = .ok t ∧ t.sp = s.sp - 2 ∧ s.pushPC a = .ok t := by
  obtain ⟨m, hlo⟩ := State.push_total ((returnWord a).extractLsb' 0 8) h₀
  rw [← State.push_sp hlo, ← (Within.push_stack hlo).dev] at h₁
  obtain ⟨t, hhi⟩ := State.push_total ((returnWord a).extractLsb' 8 8) h₁
  refine ⟨_, _, m, t, returnWord_low a, returnWord_high a, hlo, hhi, ?_, (State.pushPC_of_push hlo).trans hhi⟩
  rw [State.push_sp hhi, State.push_sp hlo]
  bv_omega

theorem State.pushPC_low_outside {s : State} (a : Nat) (h : s.dev.segSize ≤ s.sp.toNat) :
    s.pushPC a = .error (.outOfRange .dataWrite s.sp.toNat) := by
  simp only [State.pushPC, State.push_outside _ h]

theorem State.pushPC_high_outside {s : State} (a : Nat) (h₀ : s.sp.toNat < s.dev.segSize)
    (h₁ : s.dev.segSize ≤ (s.sp - 1).toNat) : s.pushPC a = .error (.outOfRange .dataWrite (s.sp - 1).toNat) := by
  obtain ⟨m, hlo⟩ := State.push_total ((returnWord a).extractLsb' 0 8) h₀
  rw [← State.push_sp hlo, ← (Within.push_stack hlo).dev] at h₁
  rw [State.pushPC_of_push hlo, State.push_outside _ h₁, State.push_sp hlo]

/-- What the push of a return address leaves alone, at whatever addresses. -/
theorem Within.pushPC_stack {s t : State} {a : Nat} (h : s.pushPC a = .ok t) :
    Within (Footprint.stack [s.sp.toNat, (s.sp - 1).toNat]) 2 s t := Within.pushPC rfl rfl h

/-! ### Calls and interrupt entry -/

/-- A call completes as its two pushes do, and faults as they do. -/
theorem exec_of_callTo {i : Instr} {s : State} {target : Nat}
    (hexec : exec i s = execute i.mnemonic s (callTo target s)) (himpl : s.implements i) :
    (s.sp.toNat < s.dev.segSize → (s.sp - 1).toNat < s.dev.segSize →
      ∃ lo hi : Byte, ∃ m t : State, lo.toNat = s.nextpc / 2 % 256 ∧ hi.toNat = s.nextpc / 512 % 256 ∧
        s.push lo = .ok m ∧ m.push hi = .ok t ∧ t.sp = s.sp - 2 ∧
        exec i s = .next { t with nextpc := target % s.dev.pcMod, cycles := s.cycles + s.baseCycles i }) ∧
    (s.dev.segSize ≤ s.sp.toNat → exec i s = .fault (.outOfRange .dataWrite s.sp.toNat)) ∧
    (s.sp.toNat < s.dev.segSize → s.dev.segSize ≤ (s.sp - 1).toNat →
      exec i s = .fault (.outOfRange .dataWrite (s.sp - 1).toNat)) := by
  refine ⟨fun h₀ h₁ => ?_, fun hout => ?_, fun h₀ hout => ?_⟩
  · obtain ⟨lo, hi, m, t, hlo, hhi, hpush, hpush', hsp, hpc⟩ := State.pushPC_inside s.nextpc h₀ h₁
    have hcall : callTo target s = .next (t.jumpTo target) := congrArg (andThen · _) hpc
    have ht := Within.pushPC_stack hpc
    refine ⟨lo, hi, m, t, hlo, hhi, hpush, hpush', hsp, ?_⟩
    rw [hexec, hcall, execute_completes _ himpl, State.jumpTo, State.charge, ht.dev, ht.cycles]
    rfl
  · have hcall : callTo target s = _ := congrArg (andThen · _) (State.pushPC_low_outside s.nextpc hout)
    rw [hexec, hcall]
    exact execute_stops _ himpl
  · have hcall : callTo target s = _ := congrArg (andThen · _) (State.pushPC_high_outside s.nextpc h₀ hout)
    rw [hexec, hcall]
    exact execute_stops _ himpl

/-- Settles O46: three calls to three targets. -/
theorem callsComplete : Obligations.CallsComplete := by
  intro s k a
  have hrel : exec (.rcall k) s = execute .rcall s (callTo (s.relTarget (lrel k)) s) := rfl
  simp only [List.forall_mem_cons, List.not_mem_nil, false_imp_iff, implies_true, and_true]
  refine ⟨fun h => ?_, exec_of_callTo rfl, exec_of_callTo rfl⟩
  have hcall := exec_of_callTo hrel h
  rw [State.relTarget_mod] at hcall
  exact hcall

/-- Settles O52: interrupt entry pushes as a call does. -/
theorem interruptEntry : Obligations.InterruptEntry := by
  refine fun s vector n => ⟨fun h₀ h₁ => ?_, fun hout => ?_, fun h₀ hout => ?_, fun hi => if_pos hi, fun hi => ?_, rfl⟩
  · obtain ⟨lo, hi, m, t, hlo, hhi, hpush, hpush', hsp, hpc⟩ := State.pushPC_inside s.pc h₀ h₁
    have ht := Within.pushPC_stack hpc
    refine ⟨lo, hi, m, t, hlo, hhi, hpush, hpush', hsp, ?_⟩
    rw [State.invokeInterrupt, hpc, ← ht.dev, ← ht.cycles]
    rfl
  · rw [State.invokeInterrupt, State.pushPC_low_outside s.pc hout]
    rfl
  · rw [State.invokeInterrupt, State.pushPC_high_outside s.pc h₀ hout]
    rfl
  · exact if_neg (by simp [hi])

/-! ### Returns -/

theorem State.popPC_of_pop {s m t : State} {hi lo : Byte} (hpop : s.pop = .ok (hi, m)) (hpop' : m.pop = .ok (lo, t)) :
    s.popPC = .ok (2 * (256 * hi.toNat + lo.toNat) % s.dev.pcMod, t) := by
  simp only [State.popPC, hpop, hpop', toNat_wordOfBytes]

theorem State.returnFromInterrupt_of_popPC {s t : State} {a : Nat} (h : s.popPC = .ok (a, t)) :
    s.returnFromInterrupt = .ok (t.jumpTo a).enableInterrupts := by
  simp only [State.returnFromInterrupt, h]

/-- RET once the return address is popped (43 R391). -/
theorem exec_ret {s t : State} {a : Nat} (hpop : s.popPC = .ok (a, t)) (himpl : s.implements .ret) :
    exec .ret s = .next { t with nextpc := a % s.dev.pcMod, cycles := s.cycles + s.baseCycles .ret } := by
  have ht : Within (Footprint.stack []) 2 s t := Within.popPC rfl hpop
  have hexec : exec .ret s = execute .ret s (andThen s.popPC fun got => .next (got.2.jumpTo got.1)) := rfl
  rw [hpop] at hexec
  rw [State.baseCycles, ← ht.dev, ← ht.cycles]
  exact hexec.trans (execute_completes _ himpl)

/-- RETI once the return address is popped: I is set too (43 R392). -/
theorem exec_reti {s t : State} {a : Nat} (hpop : s.popPC = .ok (a, t)) (himpl : s.implements .reti) :
    exec .reti s = .next { t with
      nextpc := a % s.dev.pcMod, cycles := s.cycles + s.baseCycles .reti, flags := { t.flags with i := true } } := by
  have ht : Within (Footprint.stack []) 2 s t := Within.popPC rfl hpop
  have hexec : exec .reti s = execute .reti s (andThen s.returnFromInterrupt .next) := rfl
  rw [State.returnFromInterrupt_of_popPC hpop] at hexec
  rw [State.baseCycles, ← ht.dev, ← ht.cycles]
  exact hexec.trans (execute_completes _ himpl)

theorem exec_return_fault {s : State} {e : Fault} (hpop : s.popPC = .error e) :
    ∀ i ∈ [Instr.ret, .reti], s.implements i → exec i s = .fault e := by
  have hret : exec .ret s = execute .ret s (andThen s.popPC fun got => .next (got.2.jumpTo got.1)) := rfl
  have hreti : exec .reti s = execute .reti s (andThen s.returnFromInterrupt .next) := rfl
  rw [State.returnFromInterrupt, hpop] at hreti
  rw [hpop] at hret
  simp only [List.forall_mem_cons, List.not_mem_nil, false_imp_iff, implies_true, and_true]
  exact ⟨fun h => hret.trans (execute_stops _ h), fun h => hreti.trans (execute_stops _ h)⟩

/-- Settles O47: two pops, SP two higher. -/
theorem returnsComplete : Obligations.ReturnsComplete := by
  intro s i hi himpl
  have htwo : s.sp + 1 + 1 = s.sp + 2 := by bv_omega
  refine ⟨fun h₁ h₂ => ?_, fun hout => ?_, fun h₁ hout => ?_⟩
  · obtain ⟨high, m, hpop⟩ := State.pop_total h₁
    have hsp : m.sp + 1 = s.sp + 2 := by rw [State.pop_sp hpop, htwo]
    rw [← hsp, ← (Within.pop_stack hpop).dev] at h₂
    obtain ⟨low, t, hpop'⟩ := State.pop_total h₂
    refine ⟨high, low, m, t, hpop, hpop', (State.pop_sp hpop').trans hsp, ?_⟩
    have hpc := State.popPC_of_pop hpop hpop'
    simp only [List.mem_cons, List.not_mem_nil, or_false] at hi
    rcases hi with rfl | rfl
    · rw [exec_ret hpc himpl, Nat.mod_mod]
      simp only [reduceCtorEq, decide_false, Bool.or_false]
      rfl
    · rw [exec_reti hpc himpl, Nat.mod_mod]
      simp only [decide_true, Bool.or_true]
      rfl
  · exact exec_return_fault (by simp only [State.popPC, State.pop_outside hout]) i hi himpl
  · obtain ⟨high, m, hpop⟩ := State.pop_total h₁
    have hsp : m.sp + 1 = s.sp + 2 := by rw [State.pop_sp hpop, htwo]
    rw [← hsp, ← (Within.pop_stack hpop).dev] at hout
    rw [← hsp]
    exact exec_return_fault (by simp only [State.popPC, hpop, State.pop_outside hout]) i hi himpl

end Sys2Proof.Machine
end

section
/-! PROOFS. 43_control_transfer.md section 3 and 60_exceptions.md section 2: a return brings back the address
pushed in RAM. -/

namespace Sys2Proof.Machine

/-! ### The two stack bytes in RAM -/

/-- RAM after the push of a return address there. -/
def State.returnRam (s : State) (a : Nat) : Memory :=
  (s.ram.write s.sp.toNat ((returnWord a).extractLsb' 0 8)).write (s.sp - 1).toNat ((returnWord a).extractLsb' 8 8)

section
variable {s : State} (a : Nat) (hlo : 32 + s.dev.nIo < s.sp.toNat) (hhi : s.sp.toNat < s.dev.segSize)
include hlo

theorem State.sp_below : (s.sp - 1).toNat + 1 = s.sp.toNat := by
  bv_omega

include hhi

theorem State.pushPC_ram : s.pushPC a = .ok ({ s with ram := s.returnRam a }.setSp (s.sp - 2)) := by
  let m := { s with ram := s.ram.write s.sp.toNat ((returnWord a).extractLsb' 0 8) }.setSp (s.sp - 1)
  have hbelow := State.sp_below hlo
  have hsp : m.sp = s.sp - 1 := s.sp_setSp (s.sp - 1)
  have hpush : s.push _ = .ok m := State.push_ram ((returnWord a).extractLsb' 0 8) hlo.le hhi
  have hpush' := State.push_ram (s := m) ((returnWord a).extractLsb' 8 8)
    (by rw [hsp]; exact Nat.le_of_lt_succ (hlo.trans_eq hbelow.symm))
    (by rw [hsp]; exact (Nat.lt_of_succ_le hbelow.le).trans hhi)
  have htwo : s.sp - 1 - 1 = s.sp - 2 := by bv_omega
  rw [hsp, htwo] at hpush'
  exact (State.pushPC_of_push hpush).trans hpush'

/-- The return address read back from RAM, with SP as before its push. -/
theorem State.popPC_ram {t : State} (hwf : s.ram.wf = true) (hram : t.ram = s.returnRam a) (hsp : t.sp = s.sp - 2)
    (hdev : t.dev = s.dev) :
    t.popPC = .ok (2 * (returnWord a).toNat % s.dev.pcMod, { t with spl := s.spl, sph := s.sph }) := by
  have hbelow := State.sp_below hlo
  have hup : t.sp + 1 = s.sp - 1 := by rw [hsp]; bv_omega
  have hup' : s.sp - 1 + 1 = s.sp := BitVec.sub_add_cancel s.sp 1
  let m := t.setSp (s.sp - 1)
  have hmsp : m.sp + 1 = s.sp := (congrArg (· + 1) (t.sp_setSp (s.sp - 1))).trans hup'
  have hpop : t.pop = .ok ((returnWord a).extractLsb' 8 8, m) := by
    have hget : t.ram.read (s.sp - 1).toNat = (returnWord a).extractLsb' 8 8 := by
      rw [hram]
      exact Memory.read_write_same (Memory.write_wf hwf _ _) _ _
    have h := State.pop_ram (s := t) (by rw [hup, hdev]; omega) (by rw [hup, hdev]; omega)
    rwa [hup, hget] at h
  have hpop' : m.pop = .ok ((returnWord a).extractLsb' 0 8, m.setSp s.sp) := by
    have hget : m.ram.read s.sp.toNat = (returnWord a).extractLsb' 0 8 := by
      rw [show m.ram = s.returnRam a from hram, State.returnRam, Memory.read_write_other _ _ (by omega)]
      exact Memory.read_write_same hwf _ _
    have hmdev : m.dev = s.dev := hdev
    have h := State.pop_ram (s := m) (by rw [hmsp, hmdev]; exact hlo.le) (by rwa [hmsp, hmdev])
    rwa [hmsp, hget] at h
  have haddress := congrArg (2 * BitVec.toNat · % t.dev.pcMod) (word_of_bytes (returnWord a))
  simp only [toNat_wordOfBytes] at haddress
  rw [State.popPC_of_pop hpop hpop', haddress, State.setSp_sp, ← hdev]
  rfl

/-- The push of a return address in RAM, SP apart, writes the two stack bytes alone. -/
theorem Within.returnRam {fp : Footprint} (hstores : fp.stores = [s.sp.toNat, (s.sp - 1).toNat]) :
    Within fp 2 s { s with ram := s.returnRam a } := by
  have hbelow := State.sp_below hlo
  have hlow := State.memWrite_ram ((returnWord a).extractLsb' 0 8) hlo.le hhi
  have hhigh := State.memWrite_ram (a := (s.sp - 1).toNat)
    (s := { s with ram := s.ram.write s.sp.toNat ((returnWord a).extractLsb' 0 8) }) ((returnWord a).extractLsb' 8 8)
    (Nat.le_of_lt_succ (hlo.trans_eq hbelow.symm)) ((Nat.lt_of_succ_le hbelow.le).trans hhi)
  exact (Within.memWrite (by simp [hstores]) hlow).trans (Within.memWrite (by simp [hstores]) hhigh)

end

/-! ### Return from a call -/

/-- Settles O48: the call pushes `nextpc` in RAM, RET pops it. -/
theorem returnComesBackFromCall : Obligations.ReturnComesBackFromCall := by
  intro s i hi himpl hret hwf hlo hhi heven hlt h17
  obtain ⟨target, hexec⟩ : ∃ target, exec i s = execute i.mnemonic s (callTo target s) := by
    rcases hi with rfl | ⟨k, rfl⟩ | ⟨k, rfl⟩
    · exact ⟨_, rfl⟩
    · exact ⟨_, rfl⟩
    · exact ⟨_, rfl⟩
  let t : State := { { s with ram := s.returnRam s.nextpc }.setSp (s.sp - 2) with
    nextpc := target % s.dev.pcMod, cycles := s.cycles + s.baseCycles i }
  have ht : exec i s = .next t := by
    rw [hexec, callTo, State.pushPC_ram s.nextpc hlo hhi]
    exact execute_completes _ himpl
  have hpop := State.popPC_ram s.nextpc hlo hhi (t := t) hwf rfl (s.sp_setSp (s.sp - 2)) rfl
  rw [two_mul_returnWord heven hlt h17] at hpop
  refine ⟨t, _, ht, exec_ret hpop hret, Nat.mod_eq_of_lt hlt, rfl, rfl, rfl, rfl, rfl, rfl, fun b hb hb' => ?_⟩
  have hv : Within ⟨[], [], [s.sp.toNat, (s.sp - 1).toNat], false⟩ 2 s { s with ram := s.returnRam s.nextpc } :=
    Within.returnRam s.nextpc hlo hhi rfl
  have hbelow := State.sp_below hlo
  exact hv.peek_unwritten rfl (by simp only [List.mem_cons, List.not_mem_nil, or_false]; omega) (fun _ => rfl)
    (fun _ => rfl)

/-! ### Return from an interrupt -/

/-- Settles O53: the entry pushes `pc` in RAM, RETI pops it and sets I again. -/
theorem interruptReturnComesBack : Obligations.InterruptReturnComesBack := by
  intro s vector n hinv himpl h17 hlo hhi
  let t : State := { { s with ram := s.returnRam s.pc }.setSp (s.sp - 2) with
    flags := { s.flags with i := false }
    nextpc := vector n % s.dev.pcMod, pc := vector n % s.dev.pcMod, cycles := s.cycles + 4 }
  have ht : s.invokeInterrupt vector n = .next t := by
    rw [State.invokeInterrupt, State.pushPC_ram s.pc hlo hhi]
    rfl
  have hpop := State.popPC_ram s.pc hlo hhi (t := t) hinv.ram_wf rfl (s.sp_setSp (s.sp - 2)) rfl
  rw [two_mul_returnWord hinv.pc_even hinv.pc_lt h17] at hpop
  refine ⟨t, _, ht, rfl, exec_reti hpop himpl, Nat.mod_eq_of_lt hinv.pc_lt, rfl, rfl, rfl, fun hi => ?_, rfl, rfl, rfl,
    fun b hsreg hb hb' => ?_⟩
  · rw [← hi]
  · have hv : Within ⟨[], [7], [s.sp.toNat, (s.sp - 1).toNat], false⟩ 2 s
        ({ s with ram := s.returnRam s.pc }.setFlags { s.flags with i := true }) :=
      (Within.returnRam s.pc hlo hhi rfl).trans (Within.setFlags (n := 0) (Flags.setBit_keeps s.flags 7 true))
    have hbelow := State.sp_below hlo
    exact hv.peek_unwritten rfl (by simp only [List.mem_cons, List.not_mem_nil, or_false]; omega) (fun h => absurd h hsreg)
      (fun _ => rfl)

end Sys2Proof.Machine
end
